-- ==== Sys2Proof/Word.lean ====
section
/-! DEFINITION. The word types of the block: a command word, the operand bus, a byte, a result lane, the hex bus, and four
channels of one width (spec/10_state.md R22, R23; spec/20_memory.md R44, R45). All values are unsigned (spec/00_scope.md R8). -/

namespace Sys2Proof

/-- A command word, `req_cmd` (R55). -/
abbrev Command := BitVec 5

/-- The operand bus, `req_data`, of `W_DATA = 256` bits (R6, R41). -/
abbrev Data := BitVec 256

/-- One byte lane of the hex bus (R46, R47). -/
abbrev Byte := BitVec 8

/-- One result lane, `W_LANE = 32` bits (R6, R16). -/
abbrev Lane := BitVec 32

/-- The hex bus, 64 byte lanes (R47). -/
abbrev HexBus := BitVec 512

/-- Four channels of `w` bits each in the order R, G, B, A (R19, R44): the raw fields of a stored colour, the scaled
fields, or the canonical quadruple. -/
structure Channels (w : Nat) where
  r : BitVec w
  g : BitVec w
  b : BitVec w
  a : BitVec w
deriving DecidableEq, Repr

end Sys2Proof
end

