-- ==== Sys2Proof/Syntax.lean ====
section
/-! DEFINITION. Syntax: the ten colour variants, a request, the instructions (one constructor per row of
spec/opcode_table.json), and the assembler's request lines (spec/00_scope.md R6; spec/30_encoding.md R55, R61, R67, R68). -/

namespace Sys2Proof

/-- The ten storage formats (R6, R61). -/
inductive Variant where
  | gray8 | gray16 | gray32 | gray64
  | rgba8 | rgba16 | rgba32 | rgba64 | rgba128 | rgba256
deriving DecidableEq, Repr

/-- One request: a command word and the operand bus as sampled (R19, R21, R31). -/
structure Request where
  cmd : Command
  data : Data
deriving DecidableEq, Repr

/-- A decoded request, one constructor per row of the opcode table (R61). A command carries its `N`-bit operand
`req_data[N-1:0]` (R41); a reserved row carries the bits of the command word that the row leaves open (R62) and no
operand, which is ignored (R127). DESIGN CHOICE (log 8): the operand stands in the instruction. -/
inductive Instr where
  /-- `PREMUL.GRAY8` (R76): intensity of 8 bits. -/
  | premulGray8 (v : BitVec 8)
  /-- `PREMUL.GRAY16` (R77): intensity of 16 bits. -/
  | premulGray16 (v : BitVec 16)
  /-- `PREMUL.GRAY32` (R78): intensity of 32 bits. -/
  | premulGray32 (v : BitVec 32)
  /-- `PREMUL.GRAY64` (R79): intensity of 64 bits. -/
  | premulGray64 (v : BitVec 64)
  /-- `PREMUL.RGBA8` (R94): operand `R ‖ G ‖ B ‖ A` of 8 bits. -/
  | premulRgba8 (opd : BitVec 8)
  /-- `PREMUL.RGBA16` (R95): operand `R ‖ G ‖ B ‖ A` of 16 bits. -/
  | premulRgba16 (opd : BitVec 16)
  /-- `PREMUL.RGBA32` (R96): operand `R ‖ G ‖ B ‖ A` of 32 bits. -/
  | premulRgba32 (opd : BitVec 32)
  /-- `PREMUL.RGBA64` (R97): operand `R ‖ G ‖ B ‖ A` of 64 bits. -/
  | premulRgba64 (opd : BitVec 64)
  /-- `PREMUL.RGBA128` (R98): operand `R ‖ G ‖ B ‖ A` of 128 bits. -/
  | premulRgba128 (opd : BitVec 128)
  /-- `PREMUL.RGBA256` (R99): operand `R ‖ G ‖ B ‖ A` of 256 bits. -/
  | premulRgba256 (opd : BitVec 256)
  /-- `HEX.GRAY8` (R110): intensity of 8 bits. -/
  | hexGray8 (v : BitVec 8)
  /-- `HEX.GRAY16` (R111): intensity of 16 bits. -/
  | hexGray16 (v : BitVec 16)
  /-- `HEX.GRAY32` (R112): intensity of 32 bits. -/
  | hexGray32 (v : BitVec 32)
  /-- `HEX.GRAY64` (R113): intensity of 64 bits. -/
  | hexGray64 (v : BitVec 64)
  /-- `HEX.RGBA8` (R114): operand `R ‖ G ‖ B ‖ A` of 8 bits. -/
  | hexRgba8 (opd : BitVec 8)
  /-- `HEX.RGBA16` (R115): operand `R ‖ G ‖ B ‖ A` of 16 bits. -/
  | hexRgba16 (opd : BitVec 16)
  /-- `HEX.RGBA32` (R116): operand `R ‖ G ‖ B ‖ A` of 32 bits. -/
  | hexRgba32 (opd : BitVec 32)
  /-- `HEX.RGBA64` (R117): operand `R ‖ G ‖ B ‖ A` of 64 bits. -/
  | hexRgba64 (opd : BitVec 64)
  /-- `HEX.RGBA128` (R118): operand `R ‖ G ‖ B ‖ A` of 128 bits. -/
  | hexRgba128 (opd : BitVec 128)
  /-- `HEX.RGBA256` (R119): operand `R ‖ G ‖ B ‖ A` of 256 bits. -/
  | hexRgba256 (opd : BitVec 256)
  /-- Reserved words 0x04 to 0x07 (R62): `x` is `req_cmd[1:0]`. -/
  | reserved04 (x : BitVec 2)
  /-- Reserved words 0x0E and 0x0F (R62): `x` is `req_cmd[0]`. -/
  | reserved0E (x : BitVec 1)
  /-- Reserved words 0x14 to 0x17 (R62): `x` is `req_cmd[1:0]`. -/
  | reserved14 (x : BitVec 2)
  /-- Reserved words 0x1E and 0x1F (R62): `x` is `req_cmd[0]`. -/
  | reserved1E (x : BitVec 1)
deriving DecidableEq, Repr

/-- The operation word of an assembler line: the two commands, their aliases, and the pseudo-instruction (R67, R68). -/
inductive AsmOp where
  | premul | hex
  | toPremultiplied16 | toHex
  | color
deriving DecidableEq, Repr

/-- The operand of an assembler line: a literal of the whole operand, or a record of four fields (R67). -/
inductive AsmOperand where
  | literal (n : Nat)
  | record (r g b a : Nat)
deriving DecidableEq, Repr

/-- One assembler line (R67): an operation on a variant with an operand, or `RESERVED` with a 5-bit code. -/
inductive AsmLine where
  | request (op : AsmOp) (variant : Variant) (operand : AsmOperand)
  | reserved (code : Command)
deriving DecidableEq, Repr

end Sys2Proof
end

