-- ==== Sys2Proof/Config.lean ====
section
/-! DEFINITION. Config: what is fixed for the machine. The parameters of the ten variants (spec/00_scope.md R6) and the
value that the open parameter DEPTH has in State.reset (R7). The other open parameter, LAT, is timing on which no rule
depends; it has no constant here (log 3). -/

namespace Sys2Proof

/-- `fam` of a variant: false for Gray, true for RGBA (R6, R57). -/
def Variant.isRgba : Variant → Bool
  | .gray8 | .gray16 | .gray32 | .gray64 => false
  | .rgba8 | .rgba16 | .rgba32 | .rgba64 | .rgba128 | .rgba256 => true

/-- The size code `sz` of a variant (R58). -/
def Variant.sz : Variant → BitVec 3
  | .gray8 | .rgba8 => 0
  | .gray16 | .rgba16 => 1
  | .gray32 | .rgba32 => 2
  | .gray64 | .rgba64 => 3
  | .rgba128 => 4
  | .rgba256 => 5

/-- `N`, the total storage width of a variant in bits (R6). -/
def Variant.width : Variant → Nat
  | .gray8 | .rgba8 => 8
  | .gray16 | .rgba16 => 16
  | .gray32 | .rgba32 => 32
  | .gray64 | .rgba64 => 64
  | .rgba128 => 128
  | .rgba256 => 256

/-- `C`, the number of stored channels (R6). -/
def Variant.channelCount (v : Variant) : Nat := if v.isRgba then 4 else 1

/-- `k`, the width of one stored channel in bits (R6): `N` for Gray, `N / 4` for RGBA. -/
def Variant.channelWidth (v : Variant) : Nat := v.width / v.channelCount

namespace Config

/-- `DEPTH` in State.reset. DESIGN CHOICE (log 2), unsafe: the spec leaves `DEPTH ≥ 1` open and suggests 3 (R7). -/
def depthAtReset : Nat := 3

end Config

end Sys2Proof
end

