-- ==== Sys2Proof/Decode.lean ====
section
/-! DEFINITION. Decode and encode of requests (spec/30_encoding.md R55 to R63; spec/20_memory.md R41, R42). Decode is
total: each of the 32 command words has exactly one meaning (R63), so there is nothing to reject but a number that is no
command word at all (`decodeTableWord`). -/

namespace Sys2Proof

/-- The operand of a variant of `n` bits, `req_data[n-1:0]`; the bits above are ignored (R41, R42, R59). -/
def operand (n : Nat) (d : Data) : BitVec n := d.extractLsb' 0 n

/-- `decode` (R60, R61): the five bits of the command word in the order `op`, `fam`, `sz[2]`, `sz[1]`, `sz[0]`, one line
per row of the opcode map. It reads the command word only; the operand is cut out at its fixed position (R59). -/
def decode (q : Request) : Instr :=
  match q.cmd.getLsbD 4, q.cmd.getLsbD 3, q.cmd.getLsbD 2, q.cmd.getLsbD 1, q.cmd.getLsbD 0 with
  | false, false, false, false, false => .premulGray8 (operand 8 q.data)
  | false, false, false, false, true => .premulGray16 (operand 16 q.data)
  | false, false, false, true, false => .premulGray32 (operand 32 q.data)
  | false, false, false, true, true => .premulGray64 (operand 64 q.data)
  | false, false, true, _, _ => .reserved04 (q.cmd.extractLsb' 0 2)
  | false, true, false, false, false => .premulRgba8 (operand 8 q.data)
  | false, true, false, false, true => .premulRgba16 (operand 16 q.data)
  | false, true, false, true, false => .premulRgba32 (operand 32 q.data)
  | false, true, false, true, true => .premulRgba64 (operand 64 q.data)
  | false, true, true, false, false => .premulRgba128 (operand 128 q.data)
  | false, true, true, false, true => .premulRgba256 (operand 256 q.data)
  | false, true, true, true, _ => .reserved0E (q.cmd.extractLsb' 0 1)
  | true, false, false, false, false => .hexGray8 (operand 8 q.data)
  | true, false, false, false, true => .hexGray16 (operand 16 q.data)
  | true, false, false, true, false => .hexGray32 (operand 32 q.data)
  | true, false, false, true, true => .hexGray64 (operand 64 q.data)
  | true, false, true, _, _ => .reserved14 (q.cmd.extractLsb' 0 2)
  | true, true, false, false, false => .hexRgba8 (operand 8 q.data)
  | true, true, false, false, true => .hexRgba16 (operand 16 q.data)
  | true, true, false, true, false => .hexRgba32 (operand 32 q.data)
  | true, true, false, true, true => .hexRgba64 (operand 64 q.data)
  | true, true, true, false, false => .hexRgba128 (operand 128 q.data)
  | true, true, true, false, true => .hexRgba256 (operand 256 q.data)
  | true, true, true, true, _ => .reserved1E (q.cmd.extractLsb' 0 1)

/-- The command word of an instruction (R61). -/
def commandWord : Instr → Command
  | .premulGray8 _ => 0b00000#5
  | .premulGray16 _ => 0b00001#5
  | .premulGray32 _ => 0b00010#5
  | .premulGray64 _ => 0b00011#5
  | .premulRgba8 _ => 0b01000#5
  | .premulRgba16 _ => 0b01001#5
  | .premulRgba32 _ => 0b01010#5
  | .premulRgba64 _ => 0b01011#5
  | .premulRgba128 _ => 0b01100#5
  | .premulRgba256 _ => 0b01101#5
  | .hexGray8 _ => 0b10000#5
  | .hexGray16 _ => 0b10001#5
  | .hexGray32 _ => 0b10010#5
  | .hexGray64 _ => 0b10011#5
  | .hexRgba8 _ => 0b11000#5
  | .hexRgba16 _ => 0b11001#5
  | .hexRgba32 _ => 0b11010#5
  | .hexRgba64 _ => 0b11011#5
  | .hexRgba128 _ => 0b11100#5
  | .hexRgba256 _ => 0b11101#5
  | .reserved04 x => 0b001#3 ++ x
  | .reserved0E x => 0b0111#4 ++ x
  | .reserved14 x => 0b101#3 ++ x
  | .reserved1E x => 0b1111#4 ++ x

/-- The operand bus that carries an instruction's operand: the operand zero-extended to 256 bits (R41, R67); zeros where
the operand is ignored (R127). -/
def operandBus : Instr → Data
  | .premulGray8 v => v.setWidth 256
  | .premulGray16 v => v.setWidth 256
  | .premulGray32 v => v.setWidth 256
  | .premulGray64 v => v.setWidth 256
  | .premulRgba8 opd => opd.setWidth 256
  | .premulRgba16 opd => opd.setWidth 256
  | .premulRgba32 opd => opd.setWidth 256
  | .premulRgba64 opd => opd.setWidth 256
  | .premulRgba128 opd => opd.setWidth 256
  | .premulRgba256 opd => opd
  | .hexGray8 v => v.setWidth 256
  | .hexGray16 v => v.setWidth 256
  | .hexGray32 v => v.setWidth 256
  | .hexGray64 v => v.setWidth 256
  | .hexRgba8 opd => opd.setWidth 256
  | .hexRgba16 opd => opd.setWidth 256
  | .hexRgba32 opd => opd.setWidth 256
  | .hexRgba64 opd => opd.setWidth 256
  | .hexRgba128 opd => opd.setWidth 256
  | .hexRgba256 opd => opd
  | .reserved04 _ => 0
  | .reserved0E _ => 0
  | .reserved14 _ => 0
  | .reserved1E _ => 0

/-- The request that encodes an instruction (R61, R67). -/
def encode (i : Instr) : Request := { cmd := commandWord i, data := operandBus i }

/-- How many low bits of `req_data` the request with command word `c` uses: `N = 8 << sz` for a command (R58), none for a
reserved word (R42). -/
def usedBits (c : Command) : Nat :=
  let n := 8 * 2 ^ (c.extractLsb' 0 3).toNat
  if n ≤ (if c.getLsbD 3 then 256 else 64) then n else 0

/-- The instruction that the decoder reads from a row's word, whose bits are numbered as the opcode table numbers them. A
command word has five bits, and the operand bus is not part of it (R55): it carries zeros here. A number of more than
five bits is no command word and is refused (DESIGN CHOICE, log 12). -/
def decodeTableWord (_nbits w : Nat) : Option Instr :=
  if w < 32 then some (decode { cmd := BitVec.ofNat 5 w, data := 0 }) else none

end Sys2Proof
end

