-- ==== Sys2Proof/Machine/State.lean ====
section
/-! DEFINITION. State: the whole architectural state of one CORE instance, PIPE and RSP (spec/10_state.md R20 to R22), with
the two fields the model adds (the open parameter DEPTH, log 2, and the host's coming inputs, log 1); the faults and
refusals; the state after reset (R37). -/

namespace Sys2Proof.Machine

/-- `RSP`, the response register, its eight fields (R22). -/
structure Response where
  /-- the other fields hold a response the host has not yet taken -/
  valid : Bool
  /-- the response is the error response (R26, R127) -/
  err : Bool
  r : Lane
  g : Lane
  b : Lane
  a : Lane
  /-- character `i` in bits `[8i+7:8i]` (R47) -/
  hex : HexBus
  /-- number of characters in `hex` -/
  len : BitVec 7
deriving DecidableEq, Repr

/-- What stands on the input ports at one rising edge of `clk` (R23), and whether the latency of the oldest request has
elapsed by then (R35, R151; the timing that the spec leaves open, log 3). -/
structure Edge where
  rst : Bool
  reqValid : Bool
  reqCmd : Command
  reqData : Data
  rspReady : Bool
  elapsed : Bool
deriving DecidableEq, Repr

/-- The output ports (R23). -/
structure Outputs where
  reqReady : Bool
  rspValid : Bool
  rspErr : Bool
  rspR : Lane
  rspG : Lane
  rspB : Lane
  rspA : Lane
  rspHex : HexBus
  rspLen : BitVec 7
deriving DecidableEq, Repr

/-- A response in the notation of R69: four 16-bit values, a string (its characters, first one first), or `ERR`. -/
inductive Reading where
  | quadruple (q : Channels 16)
  | text (s : List Byte)
  | error
deriving DecidableEq, Repr

/-- The state. `pipe` and `rsp` are the spec's (R20); `depth` is the parameter `DEPTH`, which no step changes (R7, log 2);
`edges` is what the host drives at the coming clock edges, oldest first (log 1). -/
structure State where
  /-- `PIPE`, oldest entry first (R21) -/
  pipe : List Request
  /-- `RSP` (R22) -/
  rsp : Response
  /-- `DEPTH`, the capacity of `PIPE` (R7) -/
  depth : Nat
  /-- the input ports at the coming edges -/
  edges : List Edge
deriving DecidableEq, Repr

/-- Nothing stops this machine: the spec gives it no fault (R63, R125), and its one exception, IllegalCommand, is an in-band
response after which it goes on (R127). So no constructor, nobody raises one, and that is unsafe only in the way that
log 10 says. -/
inductive Fault
deriving DecidableEq, Repr

/-- The reasons a step is refused. -/
inductive Refusal where
  /-- Raised by an arm of exec whose instruction has no meaning yet; no arm raises it now. Safe. -/
  | notModelled (mnemonic : String)
deriving DecidableEq, Repr

/-- `RSP` after reset: every field 0 (R22, R37, R141). -/
def Response.reset : Response :=
  { valid := false, err := false, r := 0, g := 0, b := 0, a := 0, hex := 0, len := 0 }

/-- The machine right after reset (R37): `PIPE = []` and every field of `RSP` 0. `depth` and `edges` are the model's own
(DESIGN CHOICE, logs 1 and 2): the suggested `DEPTH`, and no input scheduled. -/
def State.reset : State :=
  { pipe := [], rsp := Response.reset, depth := Config.depthAtReset, edges := [] }

end Sys2Proof.Machine
end

