-- ==== Sys2Proof/Machine/Flags.lean ====
section
/-! DEFINITION. Flags: the only status bit is `RSP.err`, and every T_execute writes it (spec/10_state.md R26). There are no
condition codes. -/

namespace Sys2Proof.Machine

/-- `RSP.err` of a legal command's response (R26, R65). -/
def errLegal : Bool := false

/-- `RSP.err` of IllegalCommand's response (R126, R127). -/
def errIllegal : Bool := true

end Sys2Proof.Machine
end

