-- ==== Sys2Proof/Machine/Ops.lean ====
section
/-! DEFINITION. The shared operations: result records (spec/30_encoding.md R65), the hex bus (spec/42_hex_encoder.md R108),
the one exception (spec/60_exceptions.md R127), the queue and the response register, and the host's three transitions
(spec/10_state.md R31, R33; spec/70_reset_and_hazards.md R141). -/

namespace Sys2Proof.Machine

/-- `lane32`: a 16-bit value in a 32-bit lane, upper half 0 (R16, R45). -/
def lane32 (v : BitVec 16) : Lane := v.setWidth 32

/-- `pack`: character `i` in bits `[8i+7:8i]`, zeros above the last one (R47, R108). -/
def pack : List Byte → HexBus
  | [] => 0
  | c :: s => pack s <<< 8 ||| c.setWidth 512

/-- `premul_result` (R65). -/
def premulResult (q : Channels 16) : Response :=
  { valid := true, err := errLegal, r := lane32 q.r, g := lane32 q.g, b := lane32 q.b, a := lane32 q.a,
    hex := 0, len := 0 }

/-- `hex_result` (R65). -/
def hexResult (s : List Byte) : Response :=
  { valid := true, err := errLegal, r := 0, g := 0, b := 0, a := 0,
    hex := pack s, len := BitVec.ofNat 7 s.length }

/-- `error_result` (R65, R127). -/
def errorResult : Response :=
  { valid := true, err := errIllegal, r := 0, g := 0, b := 0, a := 0, hex := 0, len := 0 }

/-- `RSP <- p`: all fields are written (R22, R32). -/
def State.respond (s : State) (p : Response) : State := { s with rsp := p }

/-- Taking the one exception, `raise IllegalCommand` (R126, R127): the response is the error response and nothing else
happens. Nothing is saved, no mode changes, control goes nowhere, and there is no return (R130). -/
def State.raiseIllegalCommand (s : State) : State := s.respond errorResult

/-- `PIPE <- PIPE ++ [q]` (R31). -/
def State.enqueue (s : State) (q : Request) : State := { s with pipe := s.pipe ++ [q] }

/-- The oldest request and the state without it (R32); none where `PIPE` is empty. -/
def State.fetch (s : State) : Option (Request × State) :=
  match s.pipe with
  | [] => none
  | q :: rest => some (q, { s with pipe := rest })

/-- `RSP.valid <- 0`; the other fields keep their values (R33). -/
def State.releaseResponse (s : State) : State := { s with rsp := { s.rsp with valid := false } }

/-- `req_ready` (R24). -/
def State.reqReady (s : State) : Bool := decide (s.pipe.length < s.depth)

/-- The output ports, a function of the state alone (R24). -/
def State.outputs (s : State) : Outputs :=
  { reqReady := s.reqReady, rspValid := s.rsp.valid, rspErr := s.rsp.err, rspR := s.rsp.r, rspG := s.rsp.g,
    rspB := s.rsp.b, rspA := s.rsp.a, rspHex := s.rsp.hex, rspLen := s.rsp.len }

/-- Byte lane `i` of the hex bus, bits `[8i+7:8i]` (R47). -/
def lane (h : HexBus) (i : Nat) : Byte := h.extractLsb' (8 * i) 8

/-- The first `n` byte lanes of the hex bus, the string of length `n` that stands on it (R47). -/
def lanes (h : HexBus) (n : Nat) : List Byte := (List.range n).map (lane h)

/-- How a host reads a response (R69): `err = 0` with `len = 0` marks a PREMUL response (R65). -/
def Response.reading (p : Response) : Reading :=
  if p.err then .error
  else if p.len = 0 then
    .quadruple { r := p.r.setWidth 16, g := p.g.setWidth 16, b := p.b.setWidth 16, a := p.a.setWidth 16 }
  else .text (lanes p.hex p.len.toNat)

/-- `T_accept(c, d)` at an edge before which `req_ready` was `ready`: the request is appended, whatever its word and its
operand; with `req_ready = 0` nothing is transferred (R31, R35). -/
def tAccept (ready : Bool) (q : Request) (s : State) : State :=
  if ready then s.enqueue q else s

/-- `T_deliver`: the host takes the response, where one is valid (R33). -/
def tDeliver (s : State) : State :=
  if s.rsp.valid then s.releaseResponse else s

/-- `T_reset`: `PIPE` is emptied and every field of `RSP` is 0 (R141). The parameter `DEPTH` and what the host will drive are
no part of what a reset changes. -/
def tReset (s : State) : State := { s with pipe := [], rsp := Response.reset }

/-- An edge at which the host drives 0 on every input and the latency has elapsed: CORE is left to itself (R32, R36). -/
def Edge.quiet : Edge :=
  { rst := false, reqValid := false, reqCmd := 0, reqData := 0, rspReady := false, elapsed := true }

/-- The request on the input ports (R31). -/
def Edge.request (e : Edge) : Request := { cmd := e.reqCmd, data := e.reqData }

/-- The edge that comes next; a quiet one where the host has scheduled nothing more (log 1). -/
def State.nextEdge (s : State) : Edge := s.edges.headD Edge.quiet

/-- The state with its next edge taken off the schedule. -/
def State.dropEdge (s : State) : State := { s with edges := s.edges.tail }

end Sys2Proof.Machine
end

