-- ==== Sys2Proof/Machine/Scaling.lean ====
section
/-! DEFINITION. The shared primitive: scaling a stored channel to 16 bits (spec/00_scope.md R11 to R14). -/

namespace Sys2Proof.Machine

/-- The expansion multipliers `M_k` (R11). No other width is expanded; the last line is never reached by an
instruction. -/
def multiplier : Nat → Nat
  | 2 => 0x5555
  | 4 => 0x1111
  | 8 => 0x0101
  | 16 => 0x0001
  | _ => 0

/-- `scale16_k`: for `k ≤ 16` the exact product with `M_k` (R12, R13), at the intermediate width of 32 bits (R10); for
`k = 32, 64` the top 16 bits, by a right shift of `k - 16` (R14). -/
def scale16 {k : Nat} (v : BitVec k) : BitVec 16 :=
  if k ≤ 16 then (v.setWidth 32 * BitVec.ofNat 32 (multiplier k)).setWidth 16
  else (v >>> (k - 16)).setWidth 16

end Sys2Proof.Machine
end

