-- ==== Sys2Proof/Machine/Gray.lean ====
section
/-! DEFINITION. color_converter_gray: intensity expansion and opaque-alpha injection (spec/40_color_converter_gray.md). -/

namespace Sys2Proof.Machine

/-- `GrayPremul_N` (R75): the scaled intensity on three channels, alpha `0xFFFF` whatever the intensity. -/
def grayPremul {n : Nat} (v : BitVec n) : Channels 16 :=
  let y := scale16 v
  { r := y, g := y, b := y, a := 0xFFFF }

/-- `PREMUL.GRAY8` (R76). -/
def execPremulGray8 (v : BitVec 8) (s : State) : Host.Outcome State Fault Refusal :=
  .next (s.respond (premulResult (grayPremul v)))

/-- `PREMUL.GRAY16` (R77). -/
def execPremulGray16 (v : BitVec 16) (s : State) : Host.Outcome State Fault Refusal :=
  .next (s.respond (premulResult (grayPremul v)))

/-- `PREMUL.GRAY32` (R78). -/
def execPremulGray32 (v : BitVec 32) (s : State) : Host.Outcome State Fault Refusal :=
  .next (s.respond (premulResult (grayPremul v)))

/-- `PREMUL.GRAY64` (R79). -/
def execPremulGray64 (v : BitVec 64) (s : State) : Host.Outcome State Fault Refusal :=
  .next (s.respond (premulResult (grayPremul v)))

end Sys2Proof.Machine
end

