-- ==== Sys2Proof/Machine/Hex.lean ====
section
/-! DEFINITION. hex_encoder: bit-to-ASCII hex formatting (spec/42_hex_encoder.md). -/

namespace Sys2Proof.Machine

/-- `hexdigit`: the ASCII byte of a 4-bit value, letters in lower case (R106; the codes are the spec's from general
knowledge, PRESUMED, log 6). -/
def hexDigit (n : BitVec 4) : Byte :=
  if n ≤ 9#4 then 0x30#8 + n.setWidth 8 else 0x61#8 + (n.setWidth 8 - 10#8)

/-- `hexstr_w`: `w / 4` characters, most significant group first; character `j` shows bits `[w-1-4j : w-4-4j]`
(R48, R107). -/
def hexStr {w : Nat} (v : BitVec w) : List Byte :=
  (List.range (w / 4)).map fun j => hexDigit (v.extractLsb' (w - 4 - 4 * j) 4)

/-- `GrayHex_N`: the intensity three times, then the synthetic alpha field of `N / 4` characters `f` (R105, R121). -/
def grayHex {n : Nat} (v : BitVec n) : List Byte :=
  hexStr v ++ hexStr v ++ hexStr v ++ List.replicate (n / 4) 0x66#8

/-- `RgbaHex_N`: the operand as it stands (R105, R109). -/
def rgbaHex {n : Nat} (opd : BitVec n) : List Byte := hexStr opd

/-- `HEX.GRAY8` (R110). -/
def execHexGray8 (v : BitVec 8) (s : State) : Host.Outcome State Fault Refusal :=
  .next (s.respond (hexResult (grayHex v)))

/-- `HEX.GRAY16` (R111). -/
def execHexGray16 (v : BitVec 16) (s : State) : Host.Outcome State Fault Refusal :=
  .next (s.respond (hexResult (grayHex v)))

/-- `HEX.GRAY32` (R112). -/
def execHexGray32 (v : BitVec 32) (s : State) : Host.Outcome State Fault Refusal :=
  .next (s.respond (hexResult (grayHex v)))

/-- `HEX.GRAY64` (R113). -/
def execHexGray64 (v : BitVec 64) (s : State) : Host.Outcome State Fault Refusal :=
  .next (s.respond (hexResult (grayHex v)))

/-- `HEX.RGBA8` (R114). -/
def execHexRgba8 (opd : BitVec 8) (s : State) : Host.Outcome State Fault Refusal :=
  .next (s.respond (hexResult (rgbaHex opd)))

/-- `HEX.RGBA16` (R115). -/
def execHexRgba16 (opd : BitVec 16) (s : State) : Host.Outcome State Fault Refusal :=
  .next (s.respond (hexResult (rgbaHex opd)))

/-- `HEX.RGBA32` (R116). -/
def execHexRgba32 (opd : BitVec 32) (s : State) : Host.Outcome State Fault Refusal :=
  .next (s.respond (hexResult (rgbaHex opd)))

/-- `HEX.RGBA64` (R117). -/
def execHexRgba64 (opd : BitVec 64) (s : State) : Host.Outcome State Fault Refusal :=
  .next (s.respond (hexResult (rgbaHex opd)))

/-- `HEX.RGBA128` (R118). -/
def execHexRgba128 (opd : BitVec 128) (s : State) : Host.Outcome State Fault Refusal :=
  .next (s.respond (hexResult (rgbaHex opd)))

/-- `HEX.RGBA256` (R119). -/
def execHexRgba256 (opd : BitVec 256) (s : State) : Host.Outcome State Fault Refusal :=
  .next (s.respond (hexResult (rgbaHex opd)))

end Sys2Proof.Machine
end

