-- ==== Sys2Proof/Machine/Reserved.lean ====
section
/-! DEFINITION. The reserved command words (spec/30_encoding.md R62): each raises IllegalCommand
(spec/60_exceptions.md R126, R127). The word itself is recorded nowhere (R126). -/

namespace Sys2Proof.Machine

/-- Reserved words 0x04 to 0x07 (R62, R127). -/
def execReserved04 (_x : BitVec 2) (s : State) : Host.Outcome State Fault Refusal :=
  .next (s.raiseIllegalCommand)

/-- Reserved words 0x0E and 0x0F (R62, R127). -/
def execReserved0E (_x : BitVec 1) (s : State) : Host.Outcome State Fault Refusal :=
  .next (s.raiseIllegalCommand)

/-- Reserved words 0x14 to 0x17 (R62, R127). -/
def execReserved14 (_x : BitVec 2) (s : State) : Host.Outcome State Fault Refusal :=
  .next (s.raiseIllegalCommand)

/-- Reserved words 0x1E and 0x1F (R62, R127). -/
def execReserved1E (_x : BitVec 1) (s : State) : Host.Outcome State Fault Refusal :=
  .next (s.raiseIllegalCommand)

end Sys2Proof.Machine
end

