-- ==== Sys2Proof/Machine/Operands.lean ====
section
/-! DEFINITION. Operand forms (spec/20_memory.md R43, R44): a Gray operand is its intensity as it stands; an RGBA operand is
cut into four channels, red most significant (stage S1, spec/41_color_converter_rgba.md R86). -/

namespace Sys2Proof.Machine

/-- Stage S1, channel extraction: `opd` is `R ‖ G ‖ B ‖ A` of `k` bits each (R44, R86). -/
def extractChannels {n : Nat} (k : Nat) (opd : BitVec n) : Channels k :=
  { r := opd.extractLsb' (3 * k) k
    g := opd.extractLsb' (2 * k) k
    b := opd.extractLsb' k k
    a := opd.extractLsb' 0 k }

end Sys2Proof.Machine
end

