-- ==== Sys2Proof/Machine/Rgba.lean ====
section
/-! DEFINITION. color_converter_rgba: channel extraction, bit-width scaling, alpha premultiplication
(spec/41_color_converter_rgba.md). -/

namespace Sys2Proof.Machine

/-- Stage S2: all four fields are scaled to 16 bits, alpha included (R87). -/
def scaleChannels {k : Nat} (c : Channels k) : Channels 16 :=
  { r := scale16 c.r, g := scale16 c.g, b := scale16 c.b, a := scale16 c.a }

/-- `premul16`: the 32-bit product, floor-divided by `0xFFFF` (R10, R88). -/
def premul16 (c a : BitVec 16) : BitVec 16 :=
  ((c.setWidth 32 * a.setWidth 32) / 0xFFFF#32).setWidth 16

/-- Stage S3: each colour channel is premultiplied, alpha passes unchanged (R88). -/
def premultiply (c : Channels 16) : Channels 16 :=
  { r := premul16 c.r c.a, g := premul16 c.g c.a, b := premul16 c.b c.a, a := c.a }

/-- `RgbaPremul_N` for channels of `k` bits: S1, then S2, then S3 (R85). -/
def rgbaPremul {n : Nat} (k : Nat) (opd : BitVec n) : Channels 16 :=
  premultiply (scaleChannels (extractChannels k opd))

/-- `PREMUL.RGBA8` (R94): channels of 2 bits. -/
def execPremulRgba8 (opd : BitVec 8) (s : State) : Host.Outcome State Fault Refusal :=
  .next (s.respond (premulResult (rgbaPremul 2 opd)))

/-- `PREMUL.RGBA16` (R95): channels of 4 bits. -/
def execPremulRgba16 (opd : BitVec 16) (s : State) : Host.Outcome State Fault Refusal :=
  .next (s.respond (premulResult (rgbaPremul 4 opd)))

/-- `PREMUL.RGBA32` (R96): channels of 8 bits. -/
def execPremulRgba32 (opd : BitVec 32) (s : State) : Host.Outcome State Fault Refusal :=
  .next (s.respond (premulResult (rgbaPremul 8 opd)))

/-- `PREMUL.RGBA64` (R97): channels of 16 bits. -/
def execPremulRgba64 (opd : BitVec 64) (s : State) : Host.Outcome State Fault Refusal :=
  .next (s.respond (premulResult (rgbaPremul 16 opd)))

/-- `PREMUL.RGBA128` (R98): channels of 32 bits. -/
def execPremulRgba128 (opd : BitVec 128) (s : State) : Host.Outcome State Fault Refusal :=
  .next (s.respond (premulResult (rgbaPremul 32 opd)))

/-- `PREMUL.RGBA256` (R99): channels of 64 bits. -/
def execPremulRgba256 (opd : BitVec 256) (s : State) : Host.Outcome State Fault Refusal :=
  .next (s.respond (premulResult (rgbaPremul 64 opd)))

end Sys2Proof.Machine
end

