-- ==== Sys2Proof/Machine/Dispatch.lean ====
section
/-! DEFINITION. One arm per constructor of Instr: the dispatcher of spec/30_encoding.md R64. -/

namespace Sys2Proof.Machine

def exec (i : Instr) (s : State) : Host.Outcome State Fault Refusal :=
  match i with
  | .premulGray8 v => Sys2Proof.Machine.execPremulGray8 v s
  | .premulGray16 v => Sys2Proof.Machine.execPremulGray16 v s
  | .premulGray32 v => Sys2Proof.Machine.execPremulGray32 v s
  | .premulGray64 v => Sys2Proof.Machine.execPremulGray64 v s
  | .premulRgba8 opd => Sys2Proof.Machine.execPremulRgba8 opd s
  | .premulRgba16 opd => Sys2Proof.Machine.execPremulRgba16 opd s
  | .premulRgba32 opd => Sys2Proof.Machine.execPremulRgba32 opd s
  | .premulRgba64 opd => Sys2Proof.Machine.execPremulRgba64 opd s
  | .premulRgba128 opd => Sys2Proof.Machine.execPremulRgba128 opd s
  | .premulRgba256 opd => Sys2Proof.Machine.execPremulRgba256 opd s
  | .hexGray8 v => Sys2Proof.Machine.execHexGray8 v s
  | .hexGray16 v => Sys2Proof.Machine.execHexGray16 v s
  | .hexGray32 v => Sys2Proof.Machine.execHexGray32 v s
  | .hexGray64 v => Sys2Proof.Machine.execHexGray64 v s
  | .hexRgba8 opd => Sys2Proof.Machine.execHexRgba8 opd s
  | .hexRgba16 opd => Sys2Proof.Machine.execHexRgba16 opd s
  | .hexRgba32 opd => Sys2Proof.Machine.execHexRgba32 opd s
  | .hexRgba64 opd => Sys2Proof.Machine.execHexRgba64 opd s
  | .hexRgba128 opd => Sys2Proof.Machine.execHexRgba128 opd s
  | .hexRgba256 opd => Sys2Proof.Machine.execHexRgba256 opd s
  | .reserved04 x => Sys2Proof.Machine.execReserved04 x s
  | .reserved0E x => Sys2Proof.Machine.execReserved0E x s
  | .reserved14 x => Sys2Proof.Machine.execReserved14 x s
  | .reserved1E x => Sys2Proof.Machine.execReserved1E x s

end Sys2Proof.Machine
end

