-- ==== Sys2Proof/Machine/Transitions.lean ====
section
/-! DEFINITION. CORE's own transition and the clock edge that holds all of them (spec/10_state.md R32, R35;
spec/70_reset_and_hazards.md R141). -/

namespace Sys2Proof.Machine

/-- `T_execute`: where `PIPE` is not empty and `RSP.valid = 0`, the oldest request is taken off `PIPE` and its response is
computed; elsewhere it is not enabled and nothing happens (R32). -/
def tExecute (s : State) : Host.Outcome State Fault Refusal :=
  if s.rsp.valid then .next s
  else
    match s.fetch with
    | none => .next s
    | some (q, s') => exec (decode q) s'

/-- What follows a transition that went on. -/
def thenNext (o : Host.Outcome State Fault Refusal) (f : State → State) : Host.Outcome State Fault Refusal :=
  match o with
  | .next s => .next (f s)
  | .fault r => .fault r
  | .refused r => .refused r

/-- One rising edge of `clk` (R35): with `rst = 1` only `T_reset` (R129, R141); otherwise `T_deliver` if `rsp_ready = 1`,
then `T_execute` if the latency has elapsed, then `T_accept` if `req_valid = 1`, with `req_ready` as it stood before the
edge. Each acts only if it is enabled when its turn comes. -/
def clockEdge (e : Edge) (s : State) : Host.Outcome State Fault Refusal :=
  if e.rst then .next (tReset s)
  else
    let delivered := if e.rspReady then tDeliver s else s
    let executed := if e.elapsed then tExecute delivered else .next delivered
    thenNext executed fun t => if e.reqValid then tAccept s.reqReady e.request t else t

/-- The next edge of the schedule happens. -/
def nextClockEdge (s : State) : Host.Outcome State Fault Refusal :=
  clockEdge s.nextEdge s.dropEdge

/-- `s` with the request that carries the word `w` (its five bits; operand zeros) as the oldest of `PIPE`, `RSP` free, and
nothing else asked of the machine at the next edge, so that the next step executes exactly it (log 11). -/
def loadRequest (s : State) (w : Nat) : State :=
  { s with
    pipe := { cmd := BitVec.ofNat 5 w, data := 0 } :: s.pipe
    rsp := { s.rsp with valid := false }
    edges := [] }

end Sys2Proof.Machine
end

