-- ==== Sys2Proof/Machine/Step.lean ====
section
/-! DEFINITION. One step of the machine is one rising edge of clk (spec/10_state.md R23, R35; log 1). -/

namespace Sys2Proof.Machine

/-- One step: the next clock edge of the schedule, a quiet one where the host has scheduled nothing more. -/
def step (s : State) : Host.Outcome State Fault Refusal := nextClockEdge s

/-- `s` with the instruction whose word is `w` where the next step takes its request: the head of `PIPE`. The word has
five bits and the operand bus carries zeros, whatever `nbits` says (R55; log 11). -/
def State.withFetchWord (s : State) (_nbits w : Nat) : State := loadRequest s w

end Sys2Proof.Machine
end

