-- ==== Sys2Proof/WellFormed.lean ====
section
/-! DEFINITION. Well-formedness of assembler lines (spec/30_encoding.md R67). An Instr needs no check of its own: its fields
have the widths that the encoding gives them, so an ill-formed one cannot be written. A request needs none either: any
word and any operand are accepted (spec/10_state.md R31). -/

namespace Sys2Proof

/-- The twelve reserved words of R62, as the spec lists them. -/
def reservedWords : List Command :=
  [0x04, 0x05, 0x06, 0x07, 0x0E, 0x0F, 0x14, 0x15, 0x16, 0x17, 0x1E, 0x1F]

/-- An operand fits its variant (R67): a literal lies below `2^N`; a record is for RGBA variants only and each of its
fields lies below `2^k`. -/
def AsmOperand.wellFormed (v : Variant) : AsmOperand → Bool
  | .literal n => decide (n < 2 ^ v.width)
  | .record r g b a =>
    v.isRgba && decide (r < 2 ^ v.channelWidth) && decide (g < 2 ^ v.channelWidth) &&
      decide (b < 2 ^ v.channelWidth) && decide (a < 2 ^ v.channelWidth)

/-- An assembler line is well-formed (R67): its operand fits the variant, or its code is a reserved word. -/
def AsmLine.wellFormed : AsmLine → Bool
  | .request _ v x => x.wellFormed v
  | .reserved c => decide (c ∈ reservedWords)

end Sys2Proof
end

