-- ==== Sys2Proof/Safety.lean ====
section
/-! DEFINITION. What counts as a safe run, in the terms that the statements use: the invariant of the state, what the host
sees at the ports, the order of the responses, and what a handshake may depend on. No step uses this file. -/

namespace Sys2Proof.Machine

/-- The sixteen character codes that ever appear, in the order of the digits they show (spec/20_memory.md R46;
spec/42_hex_encoder.md R106). -/
def hexAlphabet : List Byte :=
  [0x30, 0x31, 0x32, 0x33, 0x34, 0x35, 0x36, 0x37, 0x38, 0x39, 0x61, 0x62, 0x63, 0x64, 0x65, 0x66]

/-- The number that a hexadecimal string shows, most significant digit first (R48, R120 (c)). -/
def readHexText (s : List Byte) : Nat := s.foldl (fun n c => 16 * n + hexAlphabet.idxOf c) 0

/-- The canonical form: `r`, `g`, `b` at most `a`, and `a` at most `0xFFFF` (spec/00_scope.md R17). -/
structure Response.Canonical (p : Response) : Prop where
  red : p.r.toNat ≤ p.a.toNat
  green : p.g.toNat ≤ p.a.toNat
  blue : p.b.toNat ≤ p.a.toNat
  alpha : p.a.toNat ≤ 0xFFFF

/-- The four colour lanes are 0. -/
abbrev Response.Colourless (p : Response) : Prop := p.r = 0 ∧ p.g = 0 ∧ p.b = 0 ∧ p.a = 0

/-- The form of a result record (spec/30_encoding.md R65): an error response holds nothing else, a response with a string
holds no colour, the string is hexadecimal text of at most 64 characters, and the lanes beyond it are 0
(spec/20_memory.md R47; R120 (b)). -/
structure Response.Formed (p : Response) : Prop where
  errorEmpty : p.err = true → p.len = 0 ∧ p.Colourless
  textColourless : p.len ≠ 0 → p.Colourless
  lenBound : p.len.toNat ≤ 64
  text : ∀ i, i < p.len.toNat → lane p.hex i ∈ hexAlphabet
  padding : ∀ i, p.len.toNat ≤ i → i < 64 → lane p.hex i = 0

/-- The invariant of the state: `DEPTH ≥ 1` (R7), at most `DEPTH` entries in `PIPE` (R21), `RSP` in canonical form (R17) and
of the form of a result record (R65). -/
structure State.Inv (s : State) : Prop where
  depthPositive : 1 ≤ s.depth
  pipeBound : s.pipe.length ≤ s.depth
  canonical : s.rsp.Canonical
  formed : s.rsp.Formed

/-- `Exec(c, d)` (spec/30_encoding.md R64): the response that executing a request writes, read off the meaning of its
instruction. -/
def responseTo (q : Request) : Response :=
  match exec (decode q) State.reset with
  | .next s => s.rsp
  | .fault _ => Response.reset
  | .refused _ => Response.reset

/-- The requests the block has taken and the responses it has given since the last reset, as the host at the ports sees
them (spec/10_state.md R34; spec/70_reset_and_hazards.md R142). -/
structure HostView where
  accepted : List Request
  delivered : List Response
deriving DecidableEq, Repr

/-- What the host sees at the coming edge (R31, R33): its request is taken if `req_valid` and `req_ready` are 1, it takes
the response if `rsp_valid` and `rsp_ready` are 1; with `rst = 1` there is no transfer and counting starts again
(R141, R142). -/
def HostView.observe (v : HostView) (s : State) : HostView :=
  let e := s.nextEdge
  if e.rst then { accepted := [], delivered := [] }
  else
    { accepted := v.accepted ++ (if e.reqValid && s.outputs.reqReady then [e.request] else [])
      delivered := v.delivered ++ (if e.rspReady && s.outputs.rspValid then [s.rsp] else []) }

/-- `n` steps, and what the host has seen by then; none if a step stops. -/
def watch : Nat → State → HostView → Option (State × HostView)
  | 0, s, v => some (s, v)
  | n + 1, s, v =>
    match step s with
    | .next t => watch n t (v.observe s)
    | .fault _ => none
    | .refused _ => none

/-- `n` steps; none if a step stops. -/
def run : Nat → State → Option State
  | 0, s => some s
  | n + 1, s =>
    match step s with
    | .next t => run n t
    | .fault _ => none
    | .refused _ => none

/-- The response that waits in `RSP`, if there is one. -/
def State.waiting (s : State) : List Response := if s.rsp.valid then [s.rsp] else []

/-- The requests taken are, in order, those answered, the one whose response waits, and those in `PIPE` (R34). -/
def State.InOrder (s : State) (v : HostView) : Prop :=
  v.accepted.map responseTo = v.delivered ++ s.waiting ++ s.pipe.map responseTo

/-- The end of a run as far as the block is concerned: nothing is in flight and no response waits (R36). -/
def State.Done (s : State) : Prop := s.pipe = [] ∧ s.rsp.valid = false

/-- What an edge asks of the handshakes: its one-bit inputs, without the command word and the operand. -/
def Edge.control (e : Edge) : Bool × Bool × Bool × Bool := (e.rst, e.reqValid, e.rspReady, e.elapsed)

/-- Two states that differ in command words, operands and response data only. That the latencies of both elapse at the same
edges, as R151 and R153 of spec/70_reset_and_hazards.md say, is part of this relation (log 3). -/
structure State.SameTiming (s t : State) : Prop where
  pipe : s.pipe.length = t.pipe.length
  valid : s.rsp.valid = t.rsp.valid
  depth : s.depth = t.depth
  edges : s.edges.map Edge.control = t.edges.map Edge.control

end Sys2Proof.Machine
end

