-- ==== Sys2Proof/Laws/State.lean ====
section
/-! SUPPORT. The small lemmas of the state's updates: one per field per update, and the meaning of each arm of exec as one
response (each true by rfl). -/

namespace Sys2Proof.Machine

section Updates

variable (s : State) (p : Response) (q : Request) (e : Edge) (es : List Edge)

@[simp] theorem respond_pipe : (s.respond p).pipe = s.pipe := rfl
@[simp] theorem respond_rsp : (s.respond p).rsp = p := rfl
@[simp] theorem respond_depth : (s.respond p).depth = s.depth := rfl
@[simp] theorem respond_edges : (s.respond p).edges = s.edges := rfl

@[simp] theorem enqueue_pipe : (s.enqueue q).pipe = s.pipe ++ [q] := rfl
@[simp] theorem enqueue_rsp : (s.enqueue q).rsp = s.rsp := rfl
@[simp] theorem enqueue_depth : (s.enqueue q).depth = s.depth := rfl
@[simp] theorem enqueue_edges : (s.enqueue q).edges = s.edges := rfl

@[simp] theorem releaseResponse_pipe : s.releaseResponse.pipe = s.pipe := rfl
@[simp] theorem releaseResponse_valid : s.releaseResponse.rsp.valid = false := rfl
@[simp] theorem releaseResponse_depth : s.releaseResponse.depth = s.depth := rfl
@[simp] theorem releaseResponse_edges : s.releaseResponse.edges = s.edges := rfl

@[simp] theorem tReset_pipe : (tReset s).pipe = [] := rfl
@[simp] theorem tReset_rsp : (tReset s).rsp = Response.reset := rfl
@[simp] theorem tReset_depth : (tReset s).depth = s.depth := rfl
@[simp] theorem tReset_edges : (tReset s).edges = s.edges := rfl

@[simp] theorem dropEdge_pipe : s.dropEdge.pipe = s.pipe := rfl
@[simp] theorem dropEdge_rsp : s.dropEdge.rsp = s.rsp := rfl
@[simp] theorem dropEdge_depth : s.dropEdge.depth = s.depth := rfl
@[simp] theorem dropEdge_edges : s.dropEdge.edges = s.edges.tail := rfl
@[simp] theorem dropEdge_reqReady : s.dropEdge.reqReady = s.reqReady := rfl

@[simp] theorem raiseIllegalCommand_eq : s.raiseIllegalCommand = s.respond errorResult := rfl

theorem nextEdge_nil (h : s.edges = []) : s.nextEdge = Edge.quiet := by simp [State.nextEdge, h]
theorem nextEdge_cons (h : s.edges = e :: es) : s.nextEdge = e := by simp [State.nextEdge, h]

end Updates

section Arms

variable (s : State)

@[simp] theorem exec_premulGray8 (v : BitVec 8) :
    exec (.premulGray8 v) s = .next (s.respond (premulResult (grayPremul v))) := rfl
@[simp] theorem exec_premulGray16 (v : BitVec 16) :
    exec (.premulGray16 v) s = .next (s.respond (premulResult (grayPremul v))) := rfl
@[simp] theorem exec_premulGray32 (v : BitVec 32) :
    exec (.premulGray32 v) s = .next (s.respond (premulResult (grayPremul v))) := rfl
@[simp] theorem exec_premulGray64 (v : BitVec 64) :
    exec (.premulGray64 v) s = .next (s.respond (premulResult (grayPremul v))) := rfl
@[simp] theorem exec_premulRgba8 (opd : BitVec 8) :
    exec (.premulRgba8 opd) s = .next (s.respond (premulResult (rgbaPremul 2 opd))) := rfl
@[simp] theorem exec_premulRgba16 (opd : BitVec 16) :
    exec (.premulRgba16 opd) s = .next (s.respond (premulResult (rgbaPremul 4 opd))) := rfl
@[simp] theorem exec_premulRgba32 (opd : BitVec 32) :
    exec (.premulRgba32 opd) s = .next (s.respond (premulResult (rgbaPremul 8 opd))) := rfl
@[simp] theorem exec_premulRgba64 (opd : BitVec 64) :
    exec (.premulRgba64 opd) s = .next (s.respond (premulResult (rgbaPremul 16 opd))) := rfl
@[simp] theorem exec_premulRgba128 (opd : BitVec 128) :
    exec (.premulRgba128 opd) s = .next (s.respond (premulResult (rgbaPremul 32 opd))) := rfl
@[simp] theorem exec_premulRgba256 (opd : BitVec 256) :
    exec (.premulRgba256 opd) s = .next (s.respond (premulResult (rgbaPremul 64 opd))) := rfl
@[simp] theorem exec_hexGray8 (v : BitVec 8) :
    exec (.hexGray8 v) s = .next (s.respond (hexResult (grayHex v))) := rfl
@[simp] theorem exec_hexGray16 (v : BitVec 16) :
    exec (.hexGray16 v) s = .next (s.respond (hexResult (grayHex v))) := rfl
@[simp] theorem exec_hexGray32 (v : BitVec 32) :
    exec (.hexGray32 v) s = .next (s.respond (hexResult (grayHex v))) := rfl
@[simp] theorem exec_hexGray64 (v : BitVec 64) :
    exec (.hexGray64 v) s = .next (s.respond (hexResult (grayHex v))) := rfl
@[simp] theorem exec_hexRgba8 (opd : BitVec 8) :
    exec (.hexRgba8 opd) s = .next (s.respond (hexResult (rgbaHex opd))) := rfl
@[simp] theorem exec_hexRgba16 (opd : BitVec 16) :
    exec (.hexRgba16 opd) s = .next (s.respond (hexResult (rgbaHex opd))) := rfl
@[simp] theorem exec_hexRgba32 (opd : BitVec 32) :
    exec (.hexRgba32 opd) s = .next (s.respond (hexResult (rgbaHex opd))) := rfl
@[simp] theorem exec_hexRgba64 (opd : BitVec 64) :
    exec (.hexRgba64 opd) s = .next (s.respond (hexResult (rgbaHex opd))) := rfl
@[simp] theorem exec_hexRgba128 (opd : BitVec 128) :
    exec (.hexRgba128 opd) s = .next (s.respond (hexResult (rgbaHex opd))) := rfl
@[simp] theorem exec_hexRgba256 (opd : BitVec 256) :
    exec (.hexRgba256 opd) s = .next (s.respond (hexResult (rgbaHex opd))) := rfl
@[simp] theorem exec_reserved04 (x : BitVec 2) :
    exec (.reserved04 x) s = .next (s.respond errorResult) := rfl
@[simp] theorem exec_reserved0E (x : BitVec 1) :
    exec (.reserved0E x) s = .next (s.respond errorResult) := rfl
@[simp] theorem exec_reserved14 (x : BitVec 2) :
    exec (.reserved14 x) s = .next (s.respond errorResult) := rfl
@[simp] theorem exec_reserved1E (x : BitVec 1) :
    exec (.reserved1E x) s = .next (s.respond errorResult) := rfl

end Arms

end Sys2Proof.Machine
end

