-- ==== Sys2Proof/Laws/Decode.lean ====
section
/-! SUPPORT. What each command word of the opcode map decodes to, for every operand bus (spec/30_encoding.md R61). -/

namespace Sys2Proof.Machine

variable (d : Data)

@[simp] theorem decode_premulGray8 : decode ⟨0b00000#5, d⟩ = .premulGray8 (operand 8 d) := by simp [decode]
@[simp] theorem decode_premulGray16 : decode ⟨0b00001#5, d⟩ = .premulGray16 (operand 16 d) := by simp [decode]
@[simp] theorem decode_premulGray32 : decode ⟨0b00010#5, d⟩ = .premulGray32 (operand 32 d) := by simp [decode]
@[simp] theorem decode_premulGray64 : decode ⟨0b00011#5, d⟩ = .premulGray64 (operand 64 d) := by simp [decode]
@[simp] theorem decode_premulRgba8 : decode ⟨0b01000#5, d⟩ = .premulRgba8 (operand 8 d) := by simp [decode]
@[simp] theorem decode_premulRgba16 : decode ⟨0b01001#5, d⟩ = .premulRgba16 (operand 16 d) := by simp [decode]
@[simp] theorem decode_premulRgba32 : decode ⟨0b01010#5, d⟩ = .premulRgba32 (operand 32 d) := by simp [decode]
@[simp] theorem decode_premulRgba64 : decode ⟨0b01011#5, d⟩ = .premulRgba64 (operand 64 d) := by simp [decode]
@[simp] theorem decode_premulRgba128 : decode ⟨0b01100#5, d⟩ = .premulRgba128 (operand 128 d) := by simp [decode]
@[simp] theorem decode_premulRgba256 : decode ⟨0b01101#5, d⟩ = .premulRgba256 (operand 256 d) := by simp [decode]
@[simp] theorem decode_hexGray8 : decode ⟨0b10000#5, d⟩ = .hexGray8 (operand 8 d) := by simp [decode]
@[simp] theorem decode_hexGray16 : decode ⟨0b10001#5, d⟩ = .hexGray16 (operand 16 d) := by simp [decode]
@[simp] theorem decode_hexGray32 : decode ⟨0b10010#5, d⟩ = .hexGray32 (operand 32 d) := by simp [decode]
@[simp] theorem decode_hexGray64 : decode ⟨0b10011#5, d⟩ = .hexGray64 (operand 64 d) := by simp [decode]
@[simp] theorem decode_hexRgba8 : decode ⟨0b11000#5, d⟩ = .hexRgba8 (operand 8 d) := by simp [decode]
@[simp] theorem decode_hexRgba16 : decode ⟨0b11001#5, d⟩ = .hexRgba16 (operand 16 d) := by simp [decode]
@[simp] theorem decode_hexRgba32 : decode ⟨0b11010#5, d⟩ = .hexRgba32 (operand 32 d) := by simp [decode]
@[simp] theorem decode_hexRgba64 : decode ⟨0b11011#5, d⟩ = .hexRgba64 (operand 64 d) := by simp [decode]
@[simp] theorem decode_hexRgba128 : decode ⟨0b11100#5, d⟩ = .hexRgba128 (operand 128 d) := by simp [decode]
@[simp] theorem decode_hexRgba256 : decode ⟨0b11101#5, d⟩ = .hexRgba256 (operand 256 d) := by simp [decode]
@[simp] theorem decode_reserved04 : ∀ x : BitVec 2, decode ⟨0b001#3 ++ x, d⟩ = .reserved04 x := by
  intro x
  have h : x = 0 ∨ x = 1 ∨ x = 2 ∨ x = 3 := by revert x; decide
  rcases h with rfl | rfl | rfl | rfl <;> simp [decode]
@[simp] theorem decode_reserved0E : ∀ x : BitVec 1, decode ⟨0b0111#4 ++ x, d⟩ = .reserved0E x := by
  intro x
  have h : x = 0 ∨ x = 1 := by revert x; decide
  rcases h with rfl | rfl <;> simp [decode]
@[simp] theorem decode_reserved14 : ∀ x : BitVec 2, decode ⟨0b101#3 ++ x, d⟩ = .reserved14 x := by
  intro x
  have h : x = 0 ∨ x = 1 ∨ x = 2 ∨ x = 3 := by revert x; decide
  rcases h with rfl | rfl | rfl | rfl <;> simp [decode]
@[simp] theorem decode_reserved1E : ∀ x : BitVec 1, decode ⟨0b1111#4 ++ x, d⟩ = .reserved1E x := by
  intro x
  have h : x = 0 ∨ x = 1 := by revert x; decide
  rcases h with rfl | rfl <;> simp [decode]

end Sys2Proof.Machine
end

