-- ==== Sys2Proof/Laws/Ops.lean ====
section
/-! SUPPORT. One lemma for each shared operation that says what it computes, in exact natural numbers. -/

namespace Sys2Proof.Machine

/-! ### Operands -/

theorem operand_toNat (n : Nat) (d : Data) : (operand n d).toNat = d.toNat % 2 ^ n := by
  simp [operand]

theorem operand_eq_ofNat (n : Nat) (d : Data) : operand n d = BitVec.ofNat n d.toNat := by
  apply BitVec.eq_of_toNat_eq
  simp [operand_toNat]

theorem operand_setWidth {n : Nat} (h : n ≤ 256) (v : BitVec n) : operand n (v.setWidth 256) = v := by
  apply BitVec.eq_of_toNat_eq
  have hv : v.toNat < 2 ^ 256 := lt_of_lt_of_le v.isLt (Nat.pow_le_pow_right (by decide) h)
  rw [operand_toNat, BitVec.toNat_setWidth, Nat.mod_eq_of_lt hv, Nat.mod_eq_of_lt v.isLt]

theorem operand_full (d : Data) : operand 256 d = d := by
  apply BitVec.eq_of_toNat_eq
  rw [operand_toNat, Nat.mod_eq_of_lt d.isLt]

theorem extractChannels_toNat {n : Nat} (k : Nat) (opd : BitVec n) :
    (extractChannels k opd).r.toNat = opd.toNat / 2 ^ (3 * k) % 2 ^ k ∧
    (extractChannels k opd).g.toNat = opd.toNat / 2 ^ (2 * k) % 2 ^ k ∧
    (extractChannels k opd).b.toNat = opd.toNat / 2 ^ k % 2 ^ k ∧
    (extractChannels k opd).a.toNat = opd.toNat % 2 ^ k := by
  simp [extractChannels, Nat.shiftRight_eq_div_pow]

/-! ### Scaling and premultiplication -/

/-- Expansion: the exact product with the multiplier, which fits 16 bits whenever it does for the largest field. -/
theorem scale16_toNat_expand {k : Nat} (v : BitVec k) (hk : k ≤ 16)
    (hm : multiplier k * (2 ^ k - 1) ≤ 0xFFFF) (hm' : multiplier k ≤ 0xFFFF) :
    (scale16 v).toNat = v.toNat * multiplier k := by
  have hv : v.toNat ≤ 2 ^ k - 1 := Nat.le_sub_one_of_lt v.isLt
  have hp : v.toNat * multiplier k ≤ 0xFFFF := by
    calc v.toNat * multiplier k ≤ (2 ^ k - 1) * multiplier k := Nat.mul_le_mul_right _ hv
      _ = multiplier k * (2 ^ k - 1) := Nat.mul_comm _ _
      _ ≤ 0xFFFF := hm
  have h2 : v.toNat < 2 ^ 16 := lt_of_lt_of_le v.isLt (Nat.pow_le_pow_right (by decide) hk)
  simp only [scale16, hk, if_true, BitVec.toNat_setWidth, BitVec.toNat_mul, BitVec.toNat_ofNat]
  rw [Nat.mod_eq_of_lt (show v.toNat < 2 ^ 32 by omega),
    Nat.mod_eq_of_lt (show multiplier k < 2 ^ 32 by omega),
    Nat.mod_eq_of_lt (show v.toNat * multiplier k < 2 ^ 32 by omega),
    Nat.mod_eq_of_lt (show v.toNat * multiplier k < 2 ^ 16 by omega)]

/-- Truncation: the top 16 bits of a field wider than 16. -/
theorem scale16_toNat_truncate {k : Nat} (v : BitVec k) (hk : 16 < k) :
    (scale16 v).toNat = v.toNat / 2 ^ (k - 16) := by
  have h : v.toNat / 2 ^ (k - 16) < 2 ^ 16 := by
    rw [Nat.div_lt_iff_lt_mul (by positivity), ← Nat.pow_add]
    simpa [Nat.add_sub_cancel' (le_of_lt hk)] using v.isLt
  simp only [scale16, Nat.not_le.mpr hk, if_false, BitVec.toNat_setWidth, BitVec.toNat_ushiftRight,
    Nat.shiftRight_eq_div_pow]
  exact Nat.mod_eq_of_lt h

/-- The floor of the exact product over `0xFFFF`: at 32 bits neither the product nor the quotient is cut off. -/
theorem premul16_toNat (c a : BitVec 16) : (premul16 c a).toNat = c.toNat * a.toNat / 0xFFFF := by
  have hc := c.isLt
  have ha := a.isLt
  have hp : c.toNat * a.toNat ≤ 0xFFFF * 0xFFFF := Nat.mul_le_mul (by omega) (by omega)
  simp only [premul16, BitVec.toNat_setWidth, BitVec.toNat_udiv, BitVec.toNat_mul, BitVec.toNat_ofNat]
  rw [Nat.mod_eq_of_lt (show c.toNat < 2 ^ 32 by omega), Nat.mod_eq_of_lt (show a.toNat < 2 ^ 32 by omega),
    Nat.mod_eq_of_lt (show c.toNat * a.toNat < 2 ^ 32 by omega), Nat.mod_eq_of_lt (show 0xFFFF < 2 ^ 32 by decide)]
  omega

/-- A canonical channel in its lane keeps its value. -/
@[simp] theorem lane32_toNat (v : BitVec 16) : (lane32 v).toNat = v.toNat := by
  have := v.isLt
  simp [lane32]
  omega

/-! ### Hexadecimal text -/

@[simp] theorem length_hexStr {w : Nat} (v : BitVec w) : (hexStr v).length = w / 4 := by simp [hexStr]

@[simp] theorem length_rgbaHex {w : Nat} (v : BitVec w) : (rgbaHex v).length = w / 4 := length_hexStr v

@[simp] theorem length_grayHex {w : Nat} (v : BitVec w) : (grayHex v).length = 4 * (w / 4) := by
  simp [grayHex]
  omega

/-- `hexdigit` is the table of R106. -/
theorem hexDigit_eq_alphabet : ∀ n : BitVec 4, hexDigit n = hexAlphabet.getD n.toNat 0 := by decide

/-- A lane of a packed string holds its character, a lane beyond the string holds 0. -/
theorem lane_pack (s : List Byte) (hs : s.length ≤ 64) (i : Nat) (hi : i < 64) :
    lane (pack s) i = s.getD i 0 := by
  induction s generalizing i with
  | nil => simp [pack, lane]
  | cons c s ih =>
    cases i with
    | zero =>
      apply BitVec.eq_of_getLsbD_eq
      intro j hj
      simp [pack, lane, hj]
      omega
    | succ i =>
      rw [List.getD_cons_succ, ← ih (by simp at hs; omega) i (by omega)]
      apply BitVec.eq_of_getLsbD_eq
      intro j hj
      have h1 : 8 * (i + 1) + j < 512 := by omega
      have h2 : ¬ 8 * (i + 1) + j < 8 := by omega
      have h3 : 8 * (i + 1) + j - 8 = 8 * i + j := by omega
      have h4 : c.getLsbD (8 * (i + 1) + j) = false := BitVec.getLsbD_of_ge _ _ (by omega)
      simp [pack, lane, hj, h1, h2, h3, h4, BitVec.getLsbD_eq_getElem (show 8 * i + j < 512 by omega)]

/-! ### The queue and the host's transitions -/

theorem fetch_nil {s : State} (h : s.pipe = []) : s.fetch = none := by simp [State.fetch, h]

theorem fetch_cons {s : State} {q : Request} {rest : List Request} (h : s.pipe = q :: rest) :
    s.fetch = some (q, { s with pipe := rest }) := by simp [State.fetch, h]

theorem tAccept_reqReady (q : Request) (s t : State) :
    tAccept s.reqReady q t = if s.pipe.length < s.depth then t.enqueue q else t := by
  by_cases h : s.pipe.length < s.depth <;> simp [tAccept, State.reqReady, h]

theorem tAccept_cases (ready : Bool) (q : Request) (s : State) :
    (ready = true ∧ tAccept ready q s = s.enqueue q) ∨ (ready = false ∧ tAccept ready q s = s) := by
  cases ready <;> simp [tAccept]

/-- `T_deliver` changes `RSP.valid` only. -/
theorem tDeliver_eq (s : State) : tDeliver s = { s with rsp := { s.rsp with valid := false } } := by
  unfold tDeliver
  split
  · rfl
  · rename_i h
    obtain ⟨p, ⟨v, e, r, g, b, a, x, l⟩, d, es⟩ := s
    simp at h
    simp [h]

/-- What `T_execute` can do: nothing, where it is not enabled; else run the oldest request. -/
theorem tExecute_cases (s : State) :
    (s.rsp.valid = true ∧ tExecute s = .next s) ∨
    (s.rsp.valid = false ∧ s.pipe = [] ∧ tExecute s = .next s) ∨
    (∃ q rest, s.rsp.valid = false ∧ s.pipe = q :: rest ∧
      tExecute s = exec (decode q) { s with pipe := rest }) := by
  cases hv : s.rsp.valid with
  | true => exact .inl ⟨rfl, by simp [tExecute, hv]⟩
  | false =>
    cases hp : s.pipe with
    | nil => exact .inr (.inl ⟨rfl, rfl, by simp [tExecute, hv, fetch_nil hp]⟩)
    | cons q rest => exact .inr (.inr ⟨q, rest, rfl, rfl, by simp [tExecute, hv, fetch_cons hp]⟩)

theorem clockEdge_reset {e : Edge} (h : e.rst = true) (s : State) : clockEdge e s = .next (tReset s) := by
  simp [clockEdge, h]

end Sys2Proof.Machine
end

