-- ==== Sys2Proof/Laws/PerInstr.lean ====
section
/-! SUPPORT. Per-instruction families: RoundTrip says of one instruction that decoding the request that encodes it gives it
back (spec/30_encoding.md R60, R61). -/

namespace Sys2Proof.Laws.RoundTrip

/-- Decoding the request that encodes `i` gives `i`. -/
def Statement (i : Instr) : Prop := decode (encode i) = i

theorem premulGray8 (v : BitVec 8) : Statement (.premulGray8 v) :=
  (Machine.decode_premulGray8 _).trans (congrArg Instr.premulGray8 (Machine.operand_setWidth (by decide) v))
theorem premulGray16 (v : BitVec 16) : Statement (.premulGray16 v) :=
  (Machine.decode_premulGray16 _).trans (congrArg Instr.premulGray16 (Machine.operand_setWidth (by decide) v))
theorem premulGray32 (v : BitVec 32) : Statement (.premulGray32 v) :=
  (Machine.decode_premulGray32 _).trans (congrArg Instr.premulGray32 (Machine.operand_setWidth (by decide) v))
theorem premulGray64 (v : BitVec 64) : Statement (.premulGray64 v) :=
  (Machine.decode_premulGray64 _).trans (congrArg Instr.premulGray64 (Machine.operand_setWidth (by decide) v))
theorem premulRgba8 (opd : BitVec 8) : Statement (.premulRgba8 opd) :=
  (Machine.decode_premulRgba8 _).trans (congrArg Instr.premulRgba8 (Machine.operand_setWidth (by decide) opd))
theorem premulRgba16 (opd : BitVec 16) : Statement (.premulRgba16 opd) :=
  (Machine.decode_premulRgba16 _).trans (congrArg Instr.premulRgba16 (Machine.operand_setWidth (by decide) opd))
theorem premulRgba32 (opd : BitVec 32) : Statement (.premulRgba32 opd) :=
  (Machine.decode_premulRgba32 _).trans (congrArg Instr.premulRgba32 (Machine.operand_setWidth (by decide) opd))
theorem premulRgba64 (opd : BitVec 64) : Statement (.premulRgba64 opd) :=
  (Machine.decode_premulRgba64 _).trans (congrArg Instr.premulRgba64 (Machine.operand_setWidth (by decide) opd))
theorem premulRgba128 (opd : BitVec 128) : Statement (.premulRgba128 opd) :=
  (Machine.decode_premulRgba128 _).trans (congrArg Instr.premulRgba128 (Machine.operand_setWidth (by decide) opd))
theorem premulRgba256 (opd : BitVec 256) : Statement (.premulRgba256 opd) :=
  (Machine.decode_premulRgba256 _).trans (congrArg Instr.premulRgba256 (Machine.operand_full opd))
theorem hexGray8 (v : BitVec 8) : Statement (.hexGray8 v) :=
  (Machine.decode_hexGray8 _).trans (congrArg Instr.hexGray8 (Machine.operand_setWidth (by decide) v))
theorem hexGray16 (v : BitVec 16) : Statement (.hexGray16 v) :=
  (Machine.decode_hexGray16 _).trans (congrArg Instr.hexGray16 (Machine.operand_setWidth (by decide) v))
theorem hexGray32 (v : BitVec 32) : Statement (.hexGray32 v) :=
  (Machine.decode_hexGray32 _).trans (congrArg Instr.hexGray32 (Machine.operand_setWidth (by decide) v))
theorem hexGray64 (v : BitVec 64) : Statement (.hexGray64 v) :=
  (Machine.decode_hexGray64 _).trans (congrArg Instr.hexGray64 (Machine.operand_setWidth (by decide) v))
theorem hexRgba8 (opd : BitVec 8) : Statement (.hexRgba8 opd) :=
  (Machine.decode_hexRgba8 _).trans (congrArg Instr.hexRgba8 (Machine.operand_setWidth (by decide) opd))
theorem hexRgba16 (opd : BitVec 16) : Statement (.hexRgba16 opd) :=
  (Machine.decode_hexRgba16 _).trans (congrArg Instr.hexRgba16 (Machine.operand_setWidth (by decide) opd))
theorem hexRgba32 (opd : BitVec 32) : Statement (.hexRgba32 opd) :=
  (Machine.decode_hexRgba32 _).trans (congrArg Instr.hexRgba32 (Machine.operand_setWidth (by decide) opd))
theorem hexRgba64 (opd : BitVec 64) : Statement (.hexRgba64 opd) :=
  (Machine.decode_hexRgba64 _).trans (congrArg Instr.hexRgba64 (Machine.operand_setWidth (by decide) opd))
theorem hexRgba128 (opd : BitVec 128) : Statement (.hexRgba128 opd) :=
  (Machine.decode_hexRgba128 _).trans (congrArg Instr.hexRgba128 (Machine.operand_setWidth (by decide) opd))
theorem hexRgba256 (opd : BitVec 256) : Statement (.hexRgba256 opd) :=
  (Machine.decode_hexRgba256 _).trans (congrArg Instr.hexRgba256 (Machine.operand_full opd))
theorem reserved04 (x : BitVec 2) : Statement (.reserved04 x) := Machine.decode_reserved04 _ x
theorem reserved0E (x : BitVec 1) : Statement (.reserved0E x) := Machine.decode_reserved0E _ x
theorem reserved14 (x : BitVec 2) : Statement (.reserved14 x) := Machine.decode_reserved14 _ x
theorem reserved1E (x : BitVec 1) : Statement (.reserved1E x) := Machine.decode_reserved1E _ x

end Sys2Proof.Laws.RoundTrip
end

