-- ==== Sys2Proof/Machine/Assembler.lean ====
section
/-! DEFINITION. The assembler's request syntax, its aliases and its pseudo-instruction (spec/30_encoding.md R67, R68): from
the text of one line to the requests it stands for. It stands beside the machine: no step uses it. -/

namespace Sys2Proof.Machine

/-- The operations that an operation word stands for, in order, `op` 0 for PREMUL and 1 for HEX (R55, R68): `COLOR` is
PREMUL and then HEX. -/
def asmOperations : AsmOp → List (BitVec 1)
  | .premul | .toPremultiplied16 => [0]
  | .hex | .toHex => [1]
  | .color => [0, 1]

/-- The command word of an operation on a variant, `op ‖ fam ‖ sz` (R55). -/
def asmCommand (op : BitVec 1) (v : Variant) : Command :=
  (op ++ BitVec.ofBool v.isRgba) ++ v.sz

/-- The operand bus of an operand: a literal zero-extended, or the fields of a record as `R ‖ G ‖ B ‖ A` (R44, R67). -/
def asmData (v : Variant) : AsmOperand → Data
  | .literal n => BitVec.ofNat 256 n
  | .record r g b a =>
    let m := 2 ^ v.channelWidth
    BitVec.ofNat 256 (((r * m + g) * m + b) * m + a)

/-- The requests of a line (R67, R68). The operand of a reserved word is ignored (R127) and carries zeros (log 13). -/
def assemble : AsmLine → List Request
  | .request op v x => (asmOperations op).map fun o => { cmd := asmCommand o v, data := asmData v x }
  | .reserved c => [{ cmd := c, data := 0 }]

/-- The operation words, in lower case (R67, R68). -/
def asmOpNames : List (List Char × AsmOp) :=
  [("premul".toList, .premul), ("hex".toList, .hex), ("topremultiplied16".toList, .toPremultiplied16),
   ("tohex".toList, .toHex), ("color".toList, .color)]

/-- The variant words, in lower case (R67). -/
def asmVariantNames : List (List Char × Variant) :=
  [("gray8".toList, .gray8), ("gray16".toList, .gray16), ("gray32".toList, .gray32), ("gray64".toList, .gray64),
   ("rgba8".toList, .rgba8), ("rgba16".toList, .rgba16), ("rgba32".toList, .rgba32), ("rgba64".toList, .rgba64),
   ("rgba128".toList, .rgba128), ("rgba256".toList, .rgba256)]

/-- The value of a hexadecimal digit, letters in lower case. -/
def hexDigitValue (c : Char) : Option Nat :=
  if 48 ≤ c.toNat ∧ c.toNat ≤ 57 then some (c.toNat - 48)
  else if 97 ≤ c.toNat ∧ c.toNat ≤ 102 then some (c.toNat - 87)
  else none

/-- The value of a digit string after the digits read so far. -/
def readDigits (acc : Nat) : List Char → Option Nat
  | [] => some acc
  | c :: s =>
    match hexDigitValue c with
    | some d => readDigits (16 * acc + d) s
    | none => none

/-- A literal `0x…`: its value and the number of its digits, at least one (R67). -/
def readLiteral : List Char → Option (Nat × Nat)
  | '0' :: 'x' :: c :: s => (readDigits 0 (c :: s)).map fun n => (n, s.length + 1)
  | _ => none

/-- The field of a record with the letter `name`, `name:0x…` (R67). -/
def readField (name : Char) : List Char → Option Nat
  | c :: ':' :: s => if c = name then (readLiteral s).map Prod.fst else none
  | _ => none

/-- A record between its braces, which are the characters 123 and 125 (R67). -/
def readRecord (s : List Char) : Option AsmOperand :=
  if s.head? = some (Char.ofNat 123) ∧ s.getLast? = some (Char.ofNat 125) then
    let f1 := s.tail.dropLast
    let f2 := (f1.dropWhile (· ≠ ',')).tail
    let f3 := (f2.dropWhile (· ≠ ',')).tail
    let f4 := (f3.dropWhile (· ≠ ',')).tail
    match readField 'r' (f1.takeWhile (· ≠ ',')), readField 'g' (f2.takeWhile (· ≠ ',')),
        readField 'b' (f3.takeWhile (· ≠ ',')), readField 'a' f4 with
    | some r, some g, some b, some a => some (.record r g b a)
    | _, _, _, _ => none
  else none

/-- An operand of a variant: a literal of exactly `N / 4` digits, or a record (R67). -/
def readOperand (v : Variant) (s : List Char) : Option AsmOperand :=
  match readLiteral s with
  | some (n, digits) => if digits = v.width / 4 then some (.literal n) else none
  | none => readRecord s

/-- One line of text (R67): letters in either case, the operation word up to the first space, no other space meant. Where
the spec leaves the spelling open, log 13 says what is read. -/
def parseLine (text : List Char) : Option AsmLine :=
  let s := text.map Char.toLower
  let word := s.takeWhile (· ≠ ' ')
  let rest := (s.dropWhile (· ≠ ' ')).filter (· ≠ ' ')
  let line :=
    if word = "reserved".toList then
      match readLiteral rest with
      | some (n, _) => if n < 32 then some (AsmLine.reserved (BitVec.ofNat 5 n)) else none
      | none => none
    else
      match asmOpNames.lookup (word.takeWhile (· ≠ '.')),
          asmVariantNames.lookup (word.dropWhile (· ≠ '.')).tail with
      | some op, some v => (readOperand v rest).map (AsmLine.request op v)
      | _, _ => none
  line.filter AsmLine.wellFormed

/-- The requests of a line of text; none where it is no line of R67. -/
def assembleText (text : List Char) : Option (List Request) := (parseLine text).map assemble

end Sys2Proof.Machine
end

