-- ==== Sys2Proof/Certificates/Slice0/Obligations.lean ====
section
/-! DEFINITION. The statements for the provers. The first section says once the shape of a command's rule in exact natural
numbers, independently of the bit-vector operations that the meanings use; each statement fills in one rule's numbers. -/

namespace Sys2Proof.Machine

/-- A PREMUL response with the given channel values (R65). -/
def quadrupleResponse (r g b a : Nat) : Response :=
  { valid := true, err := false, r := BitVec.ofNat 32 r, g := BitVec.ofNat 32 g, b := BitVec.ofNat 32 b,
    a := BitVec.ofNat 32 a, hex := 0, len := 0 }

/-- The error response (R127). -/
def illegalCommandResponse : Response :=
  { valid := true, err := true, r := 0, g := 0, b := 0, a := 0, hex := 0, len := 0 }

/-- The `n / 4` hexadecimal digits of a number, most significant first (R107). -/
def hexDigitsOf (n v : Nat) : List Byte :=
  (List.range (n / 4)).map fun j => hexAlphabet.getD (v / 16 ^ (n / 4 - 1 - j) % 16) 0

/-- The command word decodes to the instruction with the low `n` bits of the bus as its operand, whatever the bits above
are (R41, R42, R61). -/
def CommandDecodes (n : Nat) (code : Command) (instr : BitVec n → Instr) : Prop :=
  ∀ d : Data, decode { cmd := code, data := d } = instr (BitVec.ofNat n d.toNat)

/-- The rule of a PREMUL.GRAY command: `y` gives the scaled intensity; `RSP` is written whole and all else is unchanged. -/
def GrayPremulRule (n : Nat) (code : Command) (instr : BitVec n → Instr) (y : Nat → Nat) : Prop :=
  CommandDecodes n code instr ∧
  ∀ (v : BitVec n) (s : State), exec (instr v) s =
    .next { s with rsp := quadrupleResponse (y v.toNat) (y v.toNat) (y v.toNat) 0xFFFF }

/-- The rule of a PREMUL.RGBA command with channels of `k` bits: `scale` gives the scaled field, each colour channel is the
floor of the product with alpha over `0xFFFF`; `RSP` is written whole and all else is unchanged. -/
def RgbaPremulRule (n k : Nat) (code : Command) (instr : BitVec n → Instr) (scale : Nat → Nat) : Prop :=
  CommandDecodes n code instr ∧
  ∀ (opd : BitVec n) (s : State),
    let red := scale (opd.toNat / 2 ^ (3 * k) % 2 ^ k)
    let green := scale (opd.toNat / 2 ^ (2 * k) % 2 ^ k)
    let blue := scale (opd.toNat / 2 ^ k % 2 ^ k)
    let alpha := scale (opd.toNat % 2 ^ k)
    exec (instr opd) s =
      .next { s with rsp := quadrupleResponse (red * alpha / 0xFFFF) (green * alpha / 0xFFFF)
                              (blue * alpha / 0xFFFF) alpha }

/-- The rule of a HEX command: `text` gives the string of an operand, `len` its length; every byte lane, the colour lanes
and the flags are given, and all but `RSP` is unchanged. -/
def HexRule (n : Nat) (code : Command) (instr : BitVec n → Instr) (len : Nat) (text : Nat → List Byte) : Prop :=
  CommandDecodes n code instr ∧
  ∀ (v : BitVec n) (s : State), ∃ p : Response, exec (instr v) s = .next { s with rsp := p } ∧
    p.valid = true ∧ p.err = false ∧ p.Colourless ∧ p.len.toNat = len ∧ (text v.toNat).length = len ∧
    ∀ i, i < 64 → lane p.hex i = (text v.toNat).getD i 0

/-- The string of a grey of `n` bits: the intensity three times, then `n / 4` characters `f` (R105). -/
def grayText (n v : Nat) : List Byte :=
  hexDigitsOf n v ++ hexDigitsOf n v ++ hexDigitsOf n v ++ List.replicate (n / 4) 0x66

end Sys2Proof.Machine

open Sys2Proof Sys2Proof.Machine

/-! ### Encoding -/

/-- Seven command words, one or two of each family and a reserved one, decode as the opcode map says. (R60, R61, R62) -/
def Obligations.CommandWordsDecodeByTheOpcodeMap : Prop :=
  decode { cmd := 0b00000, data := 0x9B } = .premulGray8 0x9B ∧
  decode { cmd := 0b00011, data := 0x9B } = .premulGray64 0x9B ∧
  decode { cmd := 0b01010, data := 0x9B } = .premulRgba32 0x9B ∧
  decode { cmd := 0b10001, data := 0x9B } = .hexGray16 0x9B ∧
  decode { cmd := 0b11000, data := 0x9B } = .hexRgba8 0x9B ∧
  decode { cmd := 0b11101, data := 0x9B } = .hexRgba256 0x9B ∧
  decode { cmd := 0b01111, data := 0x9B } = .reserved0E 1

/-- Decoding the request that encodes an instruction gives the instruction back, for every instruction and operand. (R60, R61, R62, R41) -/
def Obligations.DecodeOfEncodeIsTheInstruction : Prop :=
  ∀ i : Instr, Sys2Proof.Laws.RoundTrip.Statement i

/-- Encoding a decoded request gives it back but for the operand bits that its command ignores, which the model's encoder
sets to 0. (R41, R42, R58, R60, R61, R62, R67)
That these bits come back as 0 is no rule of what the host drives (R42 allows any value): for a legal word it is the zero
extension of R67, for a reserved word it is the model's choice, whose instruction keeps no operand (logs 8 and 13). -/
def Obligations.EncodeOfDecodeClearsOnlyIgnoredBits : Prop :=
  ∀ (c : Command) (d : Data),
    encode (decode { cmd := c, data := d }) = { cmd := c, data := BitVec.ofNat 256 (d.toNat % 2 ^ usedBits c) } ∧
    usedBits c = if c ∈ reservedWords then 0 else 8 * 2 ^ (c.toNat % 8)

/-- Two operand buses that agree on the low N bits give the same response, for every command word. (R42) -/
def Obligations.UnusedOperandBitsDoNotMatter : Prop :=
  ∀ (c : Command) (d d' : Data),
    (let n := if c ∈ reservedWords then 0 else 8 * 2 ^ (c.toNat % 8)
     d.toNat % 2 ^ n = d'.toNat % 2 ^ n) →
    ∀ s : State, ∃ t : State,
      exec (decode { cmd := c, data := d }) s = .next t ∧ exec (decode { cmd := c, data := d' }) s = .next t

/-! ### PREMUL on greys (spec/40_color_converter_gray.md) -/

/-- PREMUL.GRAY8 decodes from word 0x00 and writes (y, y, y, 0xFFFF) with y = v * 0x0101. (R76) -/
def Obligations.PremulGray8Result : Prop :=
  GrayPremulRule 8 0x00 .premulGray8 fun v => v * 0x0101

/-- PREMUL.GRAY16 decodes from word 0x01 and writes (y, y, y, 0xFFFF) with y = v. (R77) -/
def Obligations.PremulGray16Result : Prop :=
  GrayPremulRule 16 0x01 .premulGray16 fun v => v

/-- PREMUL.GRAY32 decodes from word 0x02 and writes (y, y, y, 0xFFFF) with y = v >> 16. (R78) -/
def Obligations.PremulGray32Result : Prop :=
  GrayPremulRule 32 0x02 .premulGray32 fun v => v / 2 ^ 16

/-- PREMUL.GRAY64 decodes from word 0x03 and writes (y, y, y, 0xFFFF) with y = v >> 48. (R79) -/
def Obligations.PremulGray64Result : Prop :=
  GrayPremulRule 64 0x03 .premulGray64 fun v => v / 2 ^ 48

/-! ### PREMUL on RGBA colours (spec/41_color_converter_rgba.md) -/

/-- PREMUL.RGBA8 decodes from word 0x08 and writes the premultiplied quadruple of its four 2-bit channels. (R94) -/
def Obligations.PremulRgba8Result : Prop :=
  RgbaPremulRule 8 2 0x08 .premulRgba8 fun v => v * 0x5555

/-- PREMUL.RGBA16 decodes from word 0x09 and writes the premultiplied quadruple of its four 4-bit channels. (R95) -/
def Obligations.PremulRgba16Result : Prop :=
  RgbaPremulRule 16 4 0x09 .premulRgba16 fun v => v * 0x1111

/-- PREMUL.RGBA32 decodes from word 0x0A and writes the premultiplied quadruple of its four 8-bit channels. (R96) -/
def Obligations.PremulRgba32Result : Prop :=
  RgbaPremulRule 32 8 0x0A .premulRgba32 fun v => v * 0x0101

/-- PREMUL.RGBA64 decodes from word 0x0B and writes the premultiplied quadruple of its four 16-bit channels. (R97) -/
def Obligations.PremulRgba64Result : Prop :=
  RgbaPremulRule 64 16 0x0B .premulRgba64 fun v => v

/-- PREMUL.RGBA128 decodes from word 0x0C and writes the premultiplied quadruple of its four 32-bit channels. (R98) -/
def Obligations.PremulRgba128Result : Prop :=
  RgbaPremulRule 128 32 0x0C .premulRgba128 fun v => v / 2 ^ 16

/-- PREMUL.RGBA256 decodes from word 0x0D and writes the premultiplied quadruple of its four 64-bit channels. (R99) -/
def Obligations.PremulRgba256Result : Prop :=
  RgbaPremulRule 256 64 0x0D .premulRgba256 fun v => v / 2 ^ 48

/-! ### HEX (spec/42_hex_encoder.md) -/

/-- HEX.GRAY8 decodes from word 0x10 and writes the intensity three times and 2 digits f. (R110) -/
def Obligations.HexGray8Result : Prop :=
  HexRule 8 0x10 .hexGray8 8 (grayText 8)

/-- HEX.GRAY16 decodes from word 0x11 and writes the intensity three times and 4 digits f. (R111) -/
def Obligations.HexGray16Result : Prop :=
  HexRule 16 0x11 .hexGray16 16 (grayText 16)

/-- HEX.GRAY32 decodes from word 0x12 and writes the intensity three times and 8 digits f. (R112) -/
def Obligations.HexGray32Result : Prop :=
  HexRule 32 0x12 .hexGray32 32 (grayText 32)

/-- HEX.GRAY64 decodes from word 0x13 and writes the intensity three times and 16 digits f. (R113) -/
def Obligations.HexGray64Result : Prop :=
  HexRule 64 0x13 .hexGray64 64 (grayText 64)

/-- HEX.RGBA8 decodes from word 0x18 and writes the 2 hex digits of the operand. (R114) -/
def Obligations.HexRgba8Result : Prop :=
  HexRule 8 0x18 .hexRgba8 2 (hexDigitsOf 8)

/-- HEX.RGBA16 decodes from word 0x19 and writes the 4 hex digits of the operand. (R115) -/
def Obligations.HexRgba16Result : Prop :=
  HexRule 16 0x19 .hexRgba16 4 (hexDigitsOf 16)

/-- HEX.RGBA32 decodes from word 0x1A and writes the 8 hex digits of the operand. (R116) -/
def Obligations.HexRgba32Result : Prop :=
  HexRule 32 0x1A .hexRgba32 8 (hexDigitsOf 32)

/-- HEX.RGBA64 decodes from word 0x1B and writes the 16 hex digits of the operand. (R117) -/
def Obligations.HexRgba64Result : Prop :=
  HexRule 64 0x1B .hexRgba64 16 (hexDigitsOf 64)

/-- HEX.RGBA128 decodes from word 0x1C and writes the 32 hex digits of the operand. (R118) -/
def Obligations.HexRgba128Result : Prop :=
  HexRule 128 0x1C .hexRgba128 32 (hexDigitsOf 128)

/-- HEX.RGBA256 decodes from word 0x1D and writes the 64 hex digits of the operand. (R119) -/
def Obligations.HexRgba256Result : Prop :=
  HexRule 256 0x1D .hexRgba256 64 (hexDigitsOf 256)

/-! ### The exception (spec/60_exceptions.md) -/

/-- Each of the twelve reserved words, with any operand, gives the error response and changes nothing else. (R62, R65, R126, R127) -/
def Obligations.ReservedWordsGiveTheErrorResponse : Prop :=
  (∀ c ∈ reservedWords, ∀ (d : Data) (s : State),
    exec (decode { cmd := c, data := d }) s = .next { s with rsp := illegalCommandResponse } ∧
    ∀ rest : List Request, s.rsp.valid = false → s.pipe = { cmd := c, data := d } :: rest →
      tExecute s = .next { s with pipe := rest, rsp := illegalCommandResponse }) ∧
  (∀ (x : BitVec 2) (s : State),
    exec (.reserved04 x) s = .next { s with rsp := illegalCommandResponse } ∧
    exec (.reserved14 x) s = .next { s with rsp := illegalCommandResponse }) ∧
  (∀ (x : BitVec 1) (s : State),
    exec (.reserved0E x) s = .next { s with rsp := illegalCommandResponse } ∧
    exec (.reserved1E x) s = .next { s with rsp := illegalCommandResponse })

/-- Executing a request sets RSP.err to 1 if its word is reserved and to 0 otherwise. (R26, R126) -/
def Obligations.ErrorFlagMarksReservedWords : Prop :=
  ∀ (c : Command) (d : Data) (s : State), ∃ t : State, exec (decode { cmd := c, data := d }) s = .next t ∧
    t.rsp.valid = true ∧ (t.rsp.err = true ↔ c ∈ reservedWords)

/-! ### All instructions -/

/-- Every instruction completes in every state, writes RSP whole with a response that depends on the instruction alone, and changes nothing else. (R18, R32, R64, R125) -/
def Obligations.ResponseIsAFunctionOfTheRequest : Prop :=
  ∀ i : Instr, ∃ p : Response, p.valid = true ∧ ∀ s : State, exec i s = .next { s with rsp := p }

/-- After every instruction r, g, b are at most a, and a is at most 0xFFFF. (R17) -/
def Obligations.EveryResponseIsInCanonicalForm : Prop :=
  ∀ (i : Instr) (s : State), ∃ t : State, exec i s = .next t ∧ t.rsp.Canonical

/-- A legal response has len = 0 exactly for PREMUL, and a HEX response has 2 to 64 characters. (R55, R56, R65) -/
def Obligations.ResponseKindShowsTheOperation : Prop :=
  ∀ (c : Command) (d : Data) (s : State), c ∉ reservedWords →
    ∃ t : State, exec (decode { cmd := c, data := d }) s = .next t ∧ t.rsp.err = false ∧
      if c.getLsbD 4 then 2 ≤ t.rsp.len.toNat ∧ t.rsp.len.toNat ≤ 64 ∧ t.rsp.Colourless
      else t.rsp.len = 0 ∧ t.rsp.hex = 0

/-! ### Scaling, premultiplication and hexadecimal text -/

/-- scale16_k keeps zero and full scale, is monotone, injective for k <= 16 and 2^(k-16) to one for k > 16. (R15) -/
def Obligations.ScalingProperties : Prop :=
  ∀ k ∈ [2, 4, 8, 16, 32, 64], ∀ v w : BitVec k,
    (scale16 v).toNat ≤ 0xFFFF ∧
    scale16 (0#k) = 0 ∧
    scale16 (BitVec.ofNat k (2 ^ k - 1)) = 0xFFFF ∧
    (v.toNat ≤ w.toNat → (scale16 v).toNat ≤ (scale16 w).toNat) ∧
    (k ≤ 16 → v.toNat < w.toNat → (scale16 v).toNat < (scale16 w).toNat) ∧
    (k ≤ 16 → scale16 v = scale16 w → v = w) ∧
    (16 < k → ∀ y : BitVec 16, scale16 v = y ↔
      y.toNat * 2 ^ (k - 16) ≤ v.toNat ∧ v.toNat < y.toNat * 2 ^ (k - 16) + 2 ^ (k - 16)) ∧
    (16 < k → (scale16 v = 0xFFFF ↔ v.extractLsb' (k - 16) 16 = BitVec.allOnes 16))

/-- premul16 never exceeds alpha, is 0 at alpha 0, the channel at full alpha, alpha at full channel, monotone and symmetric. (R92) -/
def Obligations.PremultiplicationProperties : Prop :=
  ∀ c c' a a' : BitVec 16,
    premul16 c a ≤ a ∧ premul16 c 0 = 0 ∧ premul16 c 0xFFFF = c ∧
    (a ≤ a' → premul16 c a ≤ premul16 c a') ∧ (c ≤ c' → premul16 c a ≤ premul16 c' a) ∧
    premul16 c a = premul16 a c ∧ premul16 0 a = 0 ∧ premul16 0xFFFF a = a

/-- For k <= 16, premul16 of two scaled fields is the scaled channel times the raw alpha, floor-divided by 2^k - 1. (R89) -/
def Obligations.NativeMaxFormIsTheSameFunction : Prop :=
  ∀ k ∈ [2, 4, 8, 16], ∀ c a : BitVec k,
    (premul16 (scale16 c) (scale16 a)).toNat = (scale16 c).toNat * a.toNat / (2 ^ k - 1)

/-- premul16 can be computed at 32 bits without a divider, by two shifts and two additions. (R100) -/
def Obligations.DivisionByShiftsIsTheSameFunction : Prop :=
  ∀ c a : BitVec 16,
    let x := c.setWidth 32 * a.setWidth 32
    (premul16 c a).setWidth 32 = ((x + 1) + ((x + 1) >>> 16)) >>> 16

/-- The sixteen premultiplied values of a 2-bit channel and alpha, and the alpha output, are the table of R101. (R101) -/
def Obligations.TwoBitChannelTable : Prop :=
  (∀ (alpha c : BitVec 2), (premul16 (scale16 c) (scale16 alpha)).toNat =
    (([[0x0000, 0x0000, 0x0000, 0x0000], [0x0000, 0x1C71, 0x38E3, 0x5555], [0x0000, 0x38E3, 0x71C6, 0xAAAA],
       [0x0000, 0x5555, 0xAAAA, 0xFFFF]] : List (List Nat)).getD alpha.toNat []).getD c.toNat 0) ∧
  (∀ alpha : BitVec 2,
    (scale16 alpha).toNat = ([0x0000, 0x5555, 0xAAAA, 0xFFFF] : List Nat).getD alpha.toNat 0 ∧
    premul16 (scale16 (3#2)) (scale16 alpha) = scale16 alpha ∧
    ∀ c c' : BitVec 2, c ≤ c' → premul16 (scale16 c) (scale16 alpha) ≤ premul16 (scale16 c') (scale16 alpha))

/-- hexstr_w has w/4 digits, most significant first, and the string of a concatenation is the two strings in order. (R107) -/
def Obligations.HexStringDigitsAndConcatenation : Prop :=
  (∀ (w : Nat) (v : BitVec w), w % 4 = 0 → (hexStr v).length = w / 4 ∧
    ∀ j, j < w / 4 → (hexStr v)[j]? = some (hexAlphabet.getD (v.toNat / 2 ^ (w - 4 - 4 * j) % 16) 0)) ∧
  (∀ (w1 w2 : Nat) (x : BitVec w1) (y : BitVec w2), w1 % 4 = 0 → w2 % 4 = 0 →
    hexStr (x ++ y) = hexStr x ++ hexStr y)

/-- The string of an RGBA operand reads back as the operand; the first quarter of a grey string reads back as the intensity. (R120) -/
def Obligations.HexTextReadsBackAsTheOperand : Prop :=
  ∀ (w : Nat) (v : BitVec w), w % 4 = 0 →
    readHexText (rgbaHex v) = v.toNat ∧ readHexText ((grayHex v).take (w / 4)) = v.toNat

/-- Two different operands of one HEX command give two different responses. (R120) -/
def Obligations.HexResponsesAreInjective : Prop :=
  (∀ n ∈ [8, 16, 32, 64], ∀ v v' : BitVec n, hexResult (grayHex v) = hexResult (grayHex v') → v = v') ∧
  (∀ n ∈ [8, 16, 32, 64, 128, 256], ∀ v v' : BitVec n, hexResult (rgbaHex v) = hexResult (rgbaHex v') → v = v')

/-! ### Reset and the clock edge (spec/10_state.md; spec/70_reset_and_hazards.md) -/

/-- After reset PIPE is empty, every field of RSP is 0, req_ready is 1 and rsp_valid is 0. (R37) -/
def Obligations.ResetStateIsAllZero : Prop :=
  ∀ depth : Nat, 1 ≤ depth →
    let s := { State.reset with depth := depth }
    s.pipe = [] ∧ s.rsp.valid = false ∧ s.rsp.err = false ∧ s.rsp.r = 0 ∧ s.rsp.g = 0 ∧ s.rsp.b = 0 ∧
    s.rsp.a = 0 ∧ s.rsp.hex = 0 ∧ s.rsp.len = 0 ∧ s.outputs.reqReady = true ∧ s.outputs.rspValid = false

/-- In every state each output port shows its field of RSP, req_ready shows whether PIPE has room, and the host's coming
inputs do not matter. (R24) -/
def Obligations.OutputPortsShowTheState : Prop :=
  ∀ s : State,
    s.outputs.reqReady = decide (s.pipe.length < s.depth) ∧ s.outputs.rspValid = s.rsp.valid ∧
    s.outputs.rspErr = s.rsp.err ∧ s.outputs.rspR = s.rsp.r ∧ s.outputs.rspG = s.rsp.g ∧ s.outputs.rspB = s.rsp.b ∧
    s.outputs.rspA = s.rsp.a ∧ s.outputs.rspHex = s.rsp.hex ∧ s.outputs.rspLen = s.rsp.len ∧
    ∀ es : List Edge, { s with edges := es }.outputs = s.outputs

/-- At an edge with rst = 1, PIPE is emptied, every field of RSP becomes 0 and nothing else happens. (R141) -/
def Obligations.ResetEdgeClearsEverything : Prop :=
  ∀ (s : State) (e : Edge) (es : List Edge), s.edges = e :: es → e.rst = true →
    step s = .next { pipe := [], depth := s.depth, edges := es,
                     rsp := { valid := false, err := false, r := 0, g := 0, b := 0, a := 0, hex := 0, len := 0 } }

/-- At an edge that only offers a request, it is appended to PIPE if PIPE has room, and nothing is transferred if not. (R31) -/
def Obligations.AcceptAppendsTheRequest : Prop :=
  ∀ (s : State) (e : Edge) (es : List Edge), s.edges = e :: es → e.rst = false → e.reqValid = true →
    e.rspReady = false → e.elapsed = false →
    (s.pipe.length < s.depth →
      step s = .next { s with pipe := s.pipe ++ [{ cmd := e.reqCmd, data := e.reqData }], edges := es }) ∧
    (s.depth ≤ s.pipe.length → step s = .next { s with edges := es })

/-- At an edge that only takes a response, RSP.valid becomes 0 and the other fields keep their values. (R33) -/
def Obligations.DeliverReleasesTheResponse : Prop :=
  ∀ (s : State) (e : Edge) (es : List Edge), s.edges = e :: es → e.rst = false → e.reqValid = false →
    e.elapsed = false →
    (e.rspReady = true → step s = .next { s with rsp := { s.rsp with valid := false }, edges := es }) ∧
    (e.rspReady = false → step s = .next { s with edges := es })

/-- At an edge at which only T_execute may fire, it takes the oldest request if RSP is free, and does nothing otherwise. (R32) -/
def Obligations.ExecuteNeedsARequestAndAFreeResponse : Prop :=
  ∀ (s : State) (e : Edge) (es : List Edge), s.edges = e :: es → e.rst = false → e.reqValid = false →
    e.rspReady = false → e.elapsed = true →
    (s.rsp.valid = true ∨ s.pipe = [] → step s = .next { s with edges := es }) ∧
    (∀ (q : Request) (rest : List Request), s.rsp.valid = false → s.pipe = q :: rest →
      step s = .next { s with pipe := rest, rsp := responseTo q, edges := es })

/-- When the oldest request decodes to i and its turn comes, the step is exec of i, with the delivery before it and the acceptance after it. (R32, R35, R60, R64) -/
def Obligations.StepRunsTheDecodedInstruction : Prop :=
  ∀ (s : State) (e : Edge) (es : List Edge) (q : Request) (rest : List Request),
    s.edges = e :: es → e.rst = false → e.elapsed = true → s.pipe = q :: rest →
    (s.rsp.valid = false ∨ e.rspReady = true) →
    step s = thenNext
      (exec (decode q) { s with pipe := rest, edges := es, rsp := { s.rsp with valid := false } })
      (fun t => if e.reqValid = true ∧ s.pipe.length < s.depth then
        { t with pipe := t.pipe ++ [{ cmd := e.reqCmd, data := e.reqData }] } else t)

/-- One edge without reset delivers, then executes, then accepts, each if enabled when its turn comes, with req_ready as before the edge. (R31, R32, R33, R35) -/
def Obligations.ClockEdgeOrder : Prop :=
  ∀ (s : State) (e : Edge) (es : List Edge), s.edges = e :: es → e.rst = false →
    let offered := if e.reqValid = true ∧ s.pipe.length < s.depth then [{ cmd := e.reqCmd, data := e.reqData }]
      else ([] : List Request)
    let kept := { s.rsp with valid := s.rsp.valid && !e.rspReady }
    step s = .next
      (match s.pipe with
       | [] => { s with pipe := offered, rsp := kept, edges := es }
       | q :: rest =>
         if e.elapsed = true ∧ kept.valid = false then
           { s with pipe := rest ++ offered, rsp := responseTo q, edges := es }
         else { s with pipe := s.pipe ++ offered, rsp := kept, edges := es })

/-- Model's choice (log 1): where the host has scheduled nothing more, the step is T_execute. (R32, R36) -/
def Obligations.EmptyScheduleLeavesCoreToItself : Prop :=
  ∀ s : State, s.edges = [] → step s = tExecute s

/-- In the model every step from every state answers a next state, keeps DEPTH and uses up one edge of the schedule.
(R7, R63, R125)
All three clauses are the model's: that no step stops is read from R63 and R125, which say that no command word and no
operand fails (log 10, unsafe for this very statement); that DEPTH stands in the state is log 2, R7 making it a parameter
only; that a step is one edge of a schedule is log 1. -/
def Obligations.EveryStepGoesOn : Prop :=
  ∀ s : State, ∃ t : State, step s = .next t ∧ t.depth = s.depth ∧ t.edges = s.edges.tail

/-- While rsp_valid = 1 and rsp_ready = 0 without reset, rsp_valid stays 1 and every rsp_* output stays unchanged. (R145) -/
def Obligations.WaitingResponseStays : Prop :=
  ∀ (s : State) (e : Edge) (es : List Edge), s.edges = e :: es → e.rst = false → e.rspReady = false →
    s.rsp.valid = true →
    ∃ t : State, step s = .next t ∧ t.rsp = s.rsp ∧ s.pipe <+: t.pipe ∧
      { t.outputs with reqReady := s.outputs.reqReady } = s.outputs

/-! ### Invariants and runs -/

/-- Every step keeps: DEPTH >= 1, at most DEPTH requests in PIPE, RSP in canonical form and of the form of a result record. (R7, R17, R21, R47, R65, R120) -/
def Obligations.EveryStepKeepsTheInvariant : Prop :=
  ∀ s : State, s.Inv → ∃ t : State, step s = .next t ∧ t.Inv

/-- The state after reset, with every DEPTH of at least 1 and every schedule, satisfies the invariant. (R7, R21, R37) -/
def Obligations.ResetSatisfiesTheInvariant : Prop :=
  ∀ (depth : Nat) (es : List Edge), 1 ≤ depth → { State.reset with depth := depth, edges := es }.Inv

/-- Every step keeps: the requests accepted are, in order, those answered, the one whose response waits, and those in PIPE. (R34, R142, R146) -/
def Obligations.EveryStepKeepsTheResponseOrder : Prop :=
  ∀ (s : State) (v : HostView), s.InOrder v → ∃ t : State, step s = .next t ∧ t.InOrder (v.observe s)

/-- In every run from reset each accepted request is answered by Exec of it, in order, or its response waits in RSP, or it
is still in PIPE: none is dropped, duplicated or invented. (R34) -/
def Obligations.ResponsesComeInRequestOrder : Prop :=
  ∀ (n depth : Nat) (es : List Edge), ∃ (t : State) (v : HostView),
    watch n { State.reset with depth := depth, edges := es } { accepted := [], delivered := [] } = some (t, v) ∧
    t.InOrder v ∧ (t.Done → v.delivered = v.accepted.map responseTo) ∧
    v.delivered.length ≤ v.accepted.length ∧
    ∀ i, i < v.delivered.length → v.delivered[i]? = (v.accepted[i]?).map responseTo

/-- If the host takes every response, everything accepted is answered, in order, by the time execution has been due at
len(PIPE) + 1 edges, whatever is offered meanwhile and however many other edges lie between. (R34, R35, R150)
The bound counts the edges at which execution is due, the model's view of the latency (log 3); how many clock cycles lie
between two of them is timing that R151 leaves to LAT. -/
def Obligations.WillingHostDrainsThePipe : Prop :=
  ∀ (s : State) (v : HostView) (es later : List Edge), s.edges = es ++ later →
    (∀ e ∈ es, e.rst = false ∧ e.rspReady = true) → s.pipe.length + 1 ≤ es.countP Edge.elapsed →
    ∃ (t : State) (v' : HostView),
      watch es.length s v = some (t, v') ∧
      v.delivered ++ s.waiting ++ s.pipe.map responseTo <+: v'.delivered ∧
      (s.InOrder v → v.accepted.map responseTo <+: v'.delivered) ∧
      ((∀ e ∈ es, e.reqValid = false) → t.Done ∧ v'.accepted = v.accepted ∧
        v'.delivered = v.delivered ++ s.waiting ++ s.pipe.map responseTo)

/-- If the host takes no response, RSP stays, PIPE only grows at its end, at most to DEPTH, and req_ready falls after DEPTH offers. (R147, R150) -/
def Obligations.BackPressureLosesNothing : Prop :=
  ∀ (n : Nat) (s : State), s.rsp.valid = true → s.pipe.length ≤ s.depth →
    (∀ e ∈ s.edges, e.rst = false ∧ e.rspReady = false) →
    ∃ t : State, run n s = some t ∧ t.rsp = s.rsp ∧ s.pipe <+: t.pipe ∧ t.pipe.length ≤ s.depth ∧
      ((∀ e ∈ s.edges, e.reqValid = true) → s.depth ≤ s.edges.length → s.depth ≤ n → t.outputs.reqReady = false)

/-- Where the latencies elapse at the same edges, command words, operands and response values never influence a handshake
in a run. (R24, R31, R32, R33, R35, R141)
That the latency itself does not depend on them (R151, R153) is not proved here: it stands in the hypothesis, since the
`elapsed` bits of the two schedules are equal (log 3). -/
def Obligations.TimingDoesNotDependOnData : Prop :=
  ∀ (n : Nat) (s s' : State), s.SameTiming s' → ∃ t t' : State,
    run n s = some t ∧ run n s' = some t' ∧ t.SameTiming t' ∧
    t.outputs.reqReady = t'.outputs.reqReady ∧ t.outputs.rspValid = t'.outputs.rspValid

/-- Where the latency elapses at the same edges, a step from two states that differ in command words, operands and response
values only leads to two such states, with the same transfers at that edge. (R24, R31, R32, R33, R35, R141)
The latency's independence of the data (R151, R153) stands in the hypothesis, as the equal `elapsed` bits (log 3). -/
def Obligations.EveryStepKeepsTheSameTiming : Prop :=
  ∀ s s' : State, s.SameTiming s' → ∃ t t' : State,
    step s = .next t ∧ step s' = .next t' ∧ t.SameTiming t' ∧
    ∀ v v' : HostView, v.accepted.length = v'.accepted.length → v.delivered.length = v'.delivered.length →
      (v.observe s).accepted.length = (v'.observe s').accepted.length ∧
      (v.observe s).delivered.length = (v'.observe s').delivered.length

/-- A host that has taken as many responses as it had requests accepted knows that PIPE is empty and RSP is free. (R36, R53) -/
def Obligations.CountingResponsesTellsTheEnd : Prop :=
  ∀ (s : State) (v : HostView), s.InOrder v → (v.delivered.length = v.accepted.length ↔ s.Done)

/-- With PIPE empty and RSP free, an edge that offers no request and does not reset changes nothing but the schedule. (R36) -/
def Obligations.DoneStateOnlyAcceptsOrResets : Prop :=
  ∀ (s : State) (e : Edge) (es : List Edge), s.edges = e :: es → s.Done → e.rst = false → e.reqValid = false →
    step s = .next { s with edges := es }

/-! ### The assembler (spec/30_encoding.md R67, R68) -/

/-- COLOR assembles to the PREMUL request and then the HEX request of the same operand; the aliases to what they alias. (R61, R67, R68) -/
def Obligations.ColorAndAliasesExpand : Prop :=
  (∀ (v : Variant) (x : AsmOperand),
    assemble (.request .color v x) = assemble (.request .premul v x) ++ assemble (.request .hex v x) ∧
    assemble (.request .toPremultiplied16 v x) = assemble (.request .premul v x) ∧
    assemble (.request .toHex v x) = assemble (.request .hex v x) ∧
    (assemble (.request .color v x)).map Request.data = [asmData v x, asmData v x]) ∧
  [Variant.gray8, .gray16, .gray32, .gray64, .rgba8, .rgba16, .rgba32, .rgba64, .rgba128, .rgba256].map
      (fun v => (assemble (.request .color v (.literal 0))).map Request.cmd) =
    [[0x00, 0x10], [0x01, 0x11], [0x02, 0x12], [0x03, 0x13], [0x08, 0x18], [0x09, 0x19], [0x0A, 0x1A],
     [0x0B, 0x1B], [0x0C, 0x1C], [0x0D, 0x1D]]

/-- The fields of a well-formed record operand are the four channels that stage S1 extracts. (R44, R67, R86) -/
def Obligations.RecordFieldsReachTheirChannels : Prop :=
  ∀ (v : Variant) (r g b a : Nat), (AsmOperand.record r g b a).wellFormed v = true →
    let k := v.channelWidth
    let c := extractChannels k (asmData v (.record r g b a))
    c.r.toNat = r ∧ c.g.toNat = g ∧ c.b.toNat = b ∧ c.a.toNat = a ∧
    ∃ n : Nat, n = ((r * 2 ^ k + g) * 2 ^ k + b) * 2 ^ k + a ∧ (AsmOperand.literal n).wellFormed v = true ∧
      asmData v (.literal n) = asmData v (.record r g b a)
end

