-- ==== Sys2Proof/Tests/Slice0.lean ====
section
/-! SUPPORT. Tests. Expected values are from spec/95_test_vectors.md (the vector's id stands beside each), the opcode map of
spec/30_encoding.md R61, or the rule named. The last section shows, for every statement with hypotheses, concrete values
that meet them. -/

namespace Sys2Proof.Tests

open Sys2Proof.Machine

/-- The bytes of a string. -/
def ascii (s : String) : List Byte := s.toList.map fun c => BitVec.ofNat 8 c.toNat

/-- The response after one step from reset with one request in `PIPE`, as a host reads it. -/
def answer (c : Command) (d : Data) : Option Reading :=
  match step { State.reset with pipe := [{ cmd := c, data := d }] } with
  | .next s => some s.rsp.reading
  | .fault _ => none
  | .refused _ => none

/-- The state after one step. -/
def after (s : State) : Option State :=
  match step s with
  | .next t => some t
  | .fault _ => none
  | .refused _ => none

def quad (r g b a : BitVec 16) : Option Reading := some (.quadruple { r := r, g := g, b := b, a := a })

def text (s : String) : Option Reading := some (.text (ascii s))

/-! ### WellFormed: one ill-formed line for each check, and a well-formed one -/

theorem test_literal_too_wide_refused :
    (AsmLine.request .premul .gray8 (.literal 0x100)).wellFormed = false := by decide
theorem test_record_on_grey_refused :
    (AsmLine.request .premul .gray32 (.record 0 0 0 0)).wellFormed = false := by decide
theorem test_record_red_too_wide_refused :
    (AsmLine.request .hex .rgba8 (.record 4 1 2 3)).wellFormed = false := by decide
theorem test_record_green_too_wide_refused :
    (AsmLine.request .hex .rgba16 (.record 1 16 2 3)).wellFormed = false := by decide
theorem test_record_blue_too_wide_refused :
    (AsmLine.request .hex .rgba32 (.record 1 2 256 3)).wellFormed = false := by decide
theorem test_record_alpha_too_wide_refused :
    (AsmLine.request .hex .rgba64 (.record 1 2 3 65536)).wellFormed = false := by decide
theorem test_reserved_with_legal_code_refused : (AsmLine.reserved 0x0D).wellFormed = false := by decide
theorem test_widest_literal_and_reserved_word_accepted :
    (AsmLine.request .premul .gray8 (.literal 0xFF)).wellFormed = true ∧ (AsmLine.reserved 0x0E).wellFormed = true := by
  decide

/-! ### Decode: the words of the opcode map, bit by bit (`op fam sz`) -/

theorem test_decode_premul_gray :
    decode ⟨0b00000, 0x9B⟩ = .premulGray8 0x9B ∧ decode ⟨0b00001, 0x9B⟩ = .premulGray16 0x9B ∧
    decode ⟨0b00010, 0x9B⟩ = .premulGray32 0x9B ∧ decode ⟨0b00011, 0x9B⟩ = .premulGray64 0x9B := by decide
theorem test_decode_premul_rgba :
    decode ⟨0b01000, 0x9B⟩ = .premulRgba8 0x9B ∧ decode ⟨0b01001, 0x9B⟩ = .premulRgba16 0x9B ∧
    decode ⟨0b01010, 0x9B⟩ = .premulRgba32 0x9B ∧ decode ⟨0b01011, 0x9B⟩ = .premulRgba64 0x9B ∧
    decode ⟨0b01100, 0x9B⟩ = .premulRgba128 0x9B ∧ decode ⟨0b01101, 0x9B⟩ = .premulRgba256 0x9B := by decide
theorem test_decode_hex_gray :
    decode ⟨0b10000, 0x9B⟩ = .hexGray8 0x9B ∧ decode ⟨0b10001, 0x9B⟩ = .hexGray16 0x9B ∧
    decode ⟨0b10010, 0x9B⟩ = .hexGray32 0x9B ∧ decode ⟨0b10011, 0x9B⟩ = .hexGray64 0x9B := by decide
theorem test_decode_hex_rgba :
    decode ⟨0b11000, 0x9B⟩ = .hexRgba8 0x9B ∧ decode ⟨0b11001, 0x9B⟩ = .hexRgba16 0x9B ∧
    decode ⟨0b11010, 0x9B⟩ = .hexRgba32 0x9B ∧ decode ⟨0b11011, 0x9B⟩ = .hexRgba64 0x9B ∧
    decode ⟨0b11100, 0x9B⟩ = .hexRgba128 0x9B ∧ decode ⟨0b11101, 0x9B⟩ = .hexRgba256 0x9B := by decide
theorem test_decode_reserved :
    decode ⟨0b00100, 1⟩ = .reserved04 0 ∧ decode ⟨0b00111, 1⟩ = .reserved04 3 ∧
    decode ⟨0b01110, 1⟩ = .reserved0E 0 ∧ decode ⟨0b01111, 1⟩ = .reserved0E 1 ∧
    decode ⟨0b10101, 1⟩ = .reserved14 1 ∧ decode ⟨0b10110, 1⟩ = .reserved14 2 ∧
    decode ⟨0b11110, 1⟩ = .reserved1E 0 ∧ decode ⟨0b11111, 1⟩ = .reserved1E 1 := by decide
theorem test_table_word : decodeTableWord 8 0x1D = some (.hexRgba256 0) ∧ decodeTableWord 8 0x20 = none := by decide
/-- The words of the opcode map that the encoder writes (R61). -/
theorem test_encode_words :
    (encode (.premulRgba128 0x9B)).cmd = 0x0C ∧ (encode (.hexGray64 0x9B)).cmd = 0x13 ∧
    (encode (.reserved14 3)).cmd = 0x17 ∧ (encode (.hexRgba8 0x9B)).data = 0x9B := by decide

/-! ### PREMUL -/

/-- G29: the bits above the operand are ones. -/
theorem test_premul_gray8 : answer 0x00 (BitVec.allOnes 248 ++ 0x9B#8) = quad 0x9B9B 0x9B9B 0x9B9B 0xFFFF := by decide
/-- S1, X7. -/
theorem test_premul_gray8_full : answer 0x00 0xFF = quad 0xFFFF 0xFFFF 0xFFFF 0xFFFF := by decide
/-- G10. -/
theorem test_premul_gray16 : answer 0x01 0x1234 = quad 0x1234 0x1234 0x1234 0xFFFF := by decide
/-- G18, X8. -/
theorem test_premul_gray32 : answer 0x02 0x1234ffff = quad 0x1234 0x1234 0x1234 0xFFFF := by decide
/-- G25. -/
theorem test_premul_gray64 : answer 0x03 0x0123456789abcdef = quad 0x0123 0x0123 0x0123 0xFFFF := by decide
/-- A6, P1. -/
theorem test_premul_rgba8 : answer 0x08 0xe5 = quad 0x5555 0x38E3 0x1C71 0x5555 := by decide
/-- S6, X9. -/
theorem test_premul_rgba8_source : answer 0x08 0x9b = quad 0xAAAA 0x5555 0xAAAA 0xFFFF := by decide
/-- A22, P2. -/
theorem test_premul_rgba16 : answer 0x09 0xabc7 = quad 0x4FA4 0x579B 0x5F92 0x7777 := by decide
/-- A33, P3. -/
theorem test_premul_rgba32 : answer 0x0A 0x12345678 = quad 0x0880 0x1890 0x28A0 0x7878 := by decide
/-- A31, X2. -/
theorem test_premul_rgba32_half : answer 0x0A 0x80808080 = quad 0x4080 0x4080 0x4080 0x8080 := by decide
/-- A41, P4. -/
theorem test_premul_rgba64 : answer 0x0B 0x123456789abcdef0 = quad 0x0FDA 0x4B4D 0x86C0 0xDEF0 := by decide
/-- A36, X5: the largest product. -/
theorem test_premul_rgba64_full : answer 0x0B 0xffffffffffffffff = quad 0xFFFF 0xFFFF 0xFFFF 0xFFFF := by decide
/-- A51, P5. -/
theorem test_premul_rgba128 :
    answer 0x0C 0x123456789abcdef00f1e2d3c8000ffff = quad 0x091A 0x4D5E 0x078F 0x8000 := by decide
/-- X15: alpha's low half does not count. -/
theorem test_premul_rgba128_transparent : answer 0x0C 0xffffffffffffffffffffffff0000ffff = quad 0 0 0 0 := by decide
/-- A58, P6. -/
theorem test_premul_rgba256 :
    answer 0x0D 0x123456789abcdef00fedcba987654321ffff0000000000008000000000000000 =
      quad 0x091A 0x07F6 0x8000 0x8000 := by decide
/-- S10, X10. -/
theorem test_premul_rgba256_source :
    answer 0x0D 0xaaaaaaaa00ff00ffaaaaaaaa00ff00ffaaaaaaaa00ff00ffaaaaaaaa00ff00ff =
      quad 0x71C6 0x71C6 0x71C6 0xAAAA := by decide

/-! ### HEX -/

/-- H3, S5. -/
theorem test_hex_gray8 : answer 0x10 0x9b = text "9b9b9bff" := by decide +kernel
/-- H2, X13: leading zeros stay. -/
theorem test_hex_gray8_zero : answer 0x10 0x0a = text "0a0a0aff" := by decide +kernel
/-- H6. -/
theorem test_hex_gray16 : answer 0x11 0x00a0 = text "00a000a000a0ffff" := by decide +kernel
/-- H10. -/
theorem test_hex_gray32 : answer 0x12 0x12345678 = text "123456781234567812345678ffffffff" := by decide +kernel
/-- H12. -/
theorem test_hex_gray64 : answer 0x13 0x0123456789abcdef =
    text "0123456789abcdef0123456789abcdef0123456789abcdefffffffffffffffff" := by decide +kernel
/-- S8; the bits above the operand are ones (section 6.3). -/
theorem test_hex_rgba8 : answer 0x18 (BitVec.allOnes 248 ++ 0x9B#8) = text "9b" := by decide +kernel
/-- H21. -/
theorem test_hex_rgba16 : answer 0x19 0xabc7 = text "abc7" := by decide +kernel
/-- H23, X14. -/
theorem test_hex_rgba32 : answer 0x1A 0xffffff00 = text "ffffff00" := by decide +kernel
/-- H25. -/
theorem test_hex_rgba64 : answer 0x1B 0xffff800000018000 = text "ffff800000018000" := by decide +kernel
/-- H27. -/
theorem test_hex_rgba128 : answer 0x1C 0xffffffff800000000000ffffffffffff =
    text "ffffffff800000000000ffffffffffff" := by decide +kernel
/-- H29. -/
theorem test_hex_rgba256 : answer 0x1D 0x123456789abcdef00fedcba987654321ffff0000000000008000000000000000 =
    text "123456789abcdef00fedcba987654321ffff0000000000008000000000000000" := by decide +kernel
/-- R108: `pack("9b") = 0x6239`. -/
theorem test_pack : pack (ascii "9b") = 0x6239 := by decide +kernel

/-! ### Reserved words (section 5) -/

theorem test_reserved_04_to_07 : ∀ x : BitVec 2, answer (0b001#3 ++ x) 0x9b = some .error := by decide
theorem test_reserved_0E_0F : ∀ x : BitVec 1, answer (0b0111#4 ++ x) 0xdeadbeef = some .error := by decide
theorem test_reserved_14_to_17 : ∀ x : BitVec 2, answer (0b101#3 ++ x) 0x9b = some .error := by decide
theorem test_reserved_1E_1F : ∀ x : BitVec 1, answer (0b1111#4 ++ x) 0x9b = some .error := by decide

/-! ### Clock edges (section 6) -/

def q1 : Request := { cmd := 0x0A, data := 0xff0080fe }
def q2 : Request := { cmd := 0x01, data := 0x1234 }
/-- The response to `q1` (A34). -/
def p1 : Response :=
  { valid := true, err := false, r := 0xFEFE, g := 0, b := 0x7FFE, a := 0xFEFE, hex := 0, len := 0 }
/-- An edge at which nothing is asked. -/
def idle : Edge := { rst := false, reqValid := false, reqCmd := 0, reqData := 0, rspReady := false, elapsed := false }
/-- `q2` on the input ports. -/
def offer : Edge := { idle with reqValid := true, reqCmd := q2.cmd, reqData := q2.data }

/-- Section 6.2, first row: reset wins over both handshakes. -/
theorem test_reset_wins :
    after { pipe := [q1, q2], rsp := p1, depth := 3, edges := [{ offer with rst := true, rspReady := true }] } =
      some { pipe := [], rsp := Response.reset, depth := 3, edges := [] } := by decide +kernel
/-- Section 6.2, third row, latency not elapsed. -/
theorem test_accept_only :
    after { State.reset with pipe := [q1], edges := [offer] } = some { State.reset with pipe := [q1, q2] } := by decide +kernel
/-- Section 6.2, third row, latency elapsed. -/
theorem test_execute_and_accept :
    after { State.reset with pipe := [q1], edges := [{ offer with elapsed := true }] } =
      some { State.reset with pipe := [q2], rsp := p1 } := by decide +kernel
/-- Section 6.1, step 5: with DEPTH = 1 and PIPE full nothing is accepted. -/
theorem test_no_accept_when_full :
    after { pipe := [q1], rsp := p1, depth := 1, edges := [offer] } =
      some { pipe := [q1], rsp := p1, depth := 1, edges := [] } := by decide +kernel
/-- Section 6.1, step 6: the data fields stay. -/
theorem test_deliver :
    after { pipe := [q2], rsp := p1, depth := 1, edges := [{ idle with rspReady := true }] } =
      some { pipe := [q2], rsp := { p1 with valid := false }, depth := 1, edges := [] } := by decide +kernel
/-- R35: one edge takes a response, loads the next and accepts a request. -/
theorem test_all_three_at_one_edge :
    after { pipe := [q1], rsp := { p1 with r := 0 }, depth := 3,
            edges := [{ offer with rspReady := true, elapsed := true }] } =
      some { pipe := [q2], rsp := p1, depth := 3, edges := [] } := by decide +kernel
/-- R35: `req_ready` is the one before the edge, though the edge makes room. -/
theorem test_ready_is_from_before_the_edge :
    after { pipe := [q1], rsp := Response.reset, depth := 1, edges := [{ offer with elapsed := true }] } =
      some { pipe := [], rsp := p1, depth := 1, edges := [] } := by decide +kernel

/-! ### The assembler (R67, R68, section 7) -/

theorem test_color_line :
    assembleText "COLOR.GRAY8 0x9b".toList = some [⟨0x00, 0x9b⟩, ⟨0x10, 0x9b⟩] := by decide +kernel
theorem test_alias_line : assembleText "toHex.GRAY8 0x9b".toList = some [⟨0x10, 0x9b⟩] := by decide +kernel
/-- A record: its braces are the characters 123 and 125. -/
theorem test_record_line :
    assembleText ("PREMUL.RGBA16 ".toList ++ [Char.ofNat 123] ++ "R:0xA, G:0x5, B:0xA, A:0x8".toList ++ [Char.ofNat 125]) =
      some [⟨0x09, 0xa5a8⟩] := by decide +kernel
theorem test_reserved_line :
    assembleText "RESERVED 0x0E".toList = some [⟨0x0E, 0⟩] ∧ assembleText "RESERVED 0x0D".toList = none := by
  decide +kernel
theorem test_short_literal_refused : assembleText "HEX.GRAY16 0x9b".toList = none := by decide +kernel

/-! ### Witnesses: concrete values that meet a statement's hypotheses -/

/-- UnusedOperandBitsDoNotMatter: an 8-bit variant, a 256-bit variant, a reserved word. -/
theorem witness_unused_bits :
    (let n := if (0x18 : Command) ∈ reservedWords then 0 else 8 * 2 ^ ((0x18 : Command).toNat % 8)
     (0x9B : Data).toNat % 2 ^ n = (0xF9B : Data).toNat % 2 ^ n) ∧
    (let n := if (0x1D : Command) ∈ reservedWords then 0 else 8 * 2 ^ ((0x1D : Command).toNat % 8)
     (0x9B : Data).toNat % 2 ^ n = (0x9B : Data).toNat % 2 ^ n) ∧
    (let n := if (0x1E : Command) ∈ reservedWords then 0 else 8 * 2 ^ ((0x1E : Command).toNat % 8)
     (0 : Data).toNat % 2 ^ n = (1 : Data).toNat % 2 ^ n) := by decide +kernel

/-- ReservedWordsGiveTheErrorResponse. -/
theorem witness_reserved :
    (0x1E : Command) ∈ reservedWords ∧ (State.reset.withFetchWord 8 0x1E).rsp.valid = false ∧
    (State.reset.withFetchWord 8 0x1E).pipe = [{ cmd := 0x1E, data := 0 }] := by decide

/-- ResponseKindShowsTheOperation: a PREMUL word and a HEX word. -/
theorem witness_legal_words :
    (0x0D : Command) ∉ reservedWords ∧ (0x0D : Command).getLsbD 4 = false ∧
    (0x18 : Command) ∉ reservedWords ∧ (0x18 : Command).getLsbD 4 = true := by decide

/-- ScalingProperties: an expanded width and a truncated one, with unequal and with equal fields, and a full result. -/
theorem witness_scaling :
    (16 ∈ [2, 4, 8, 16, 32, 64] ∧ (1#16).toNat < (2#16).toNat ∧ scale16 (7#16) = scale16 (7#16)) ∧
    (32 ∈ [2, 4, 8, 16, 32, 64] ∧ (0x12340000#32).toNat ≤ (0x1234FFFF#32).toNat ∧ scale16 (0xFFFF0000#32) = 0xFFFF) := by
  decide

/-- PremultiplicationProperties. -/
theorem witness_premul_order : (0x7FFF : BitVec 16) ≤ 0x8000 ∧ (0 : BitVec 16) ≤ 0xFFFF := by decide

/-- NativeMaxFormIsTheSameFunction. -/
theorem witness_native_max : 2 ∈ [2, 4, 8, 16] ∧ 16 ∈ [2, 4, 8, 16] := by decide

/-- TwoBitChannelTable. -/
theorem witness_two_bit_order : (1 : BitVec 2) ≤ 3 := by decide

/-- HexStringDigitsAndConcatenation and HexTextReadsBackAsTheOperand: the least and the greatest width of a command. -/
theorem witness_hex_widths : 8 % 4 = 0 ∧ 1 < 8 / 4 ∧ 256 % 4 = 0 ∧ 63 < 256 / 4 := by decide

/-- HexResponsesAreInjective: an operand whose response is given. -/
theorem witness_hex_response :
    8 ∈ [8, 16, 32, 64] ∧ 256 ∈ [8, 16, 32, 64, 128, 256] ∧
    hexResult (grayHex (0x9B#8)) = hexResult (grayHex (0x9B#8)) ∧
    hexResult (rgbaHex (0x9B#256)) = hexResult (rgbaHex (0x9B#256)) := ⟨by decide, by decide, rfl, rfl⟩

/-- ResetStateIsAllZero and ResetSatisfiesTheInvariant: the least DEPTH. -/
theorem witness_least_depth : 1 ≤ 1 := by decide

/-- A state with one request waiting and one edge. -/
def oneRequest (e : Edge) : State := { State.reset with pipe := [q1], edges := [e] }
/-- The same with a response that waits. -/
def oneResponse (e : Edge) : State := { oneRequest e with rsp := p1 }

/-- ResetEdgeClearsEverything. -/
theorem witness_reset_edge :
    (oneResponse { offer with rst := true }).edges = [{ offer with rst := true }] ∧
    ({ offer with rst := true } : Edge).rst = true := by decide

/-- AcceptAppendsTheRequest: with room, and with PIPE full. -/
theorem witness_accept :
    (oneRequest offer).edges = [offer] ∧ offer.rst = false ∧ offer.reqValid = true ∧ offer.rspReady = false ∧
    offer.elapsed = false ∧ (oneRequest offer).pipe.length < (oneRequest offer).depth ∧
    ({ oneRequest offer with depth := 1 } : State).depth ≤ ({ oneRequest offer with depth := 1 } : State).pipe.length := by
  decide

/-- DeliverReleasesTheResponse: taking and not taking. -/
theorem witness_deliver :
    let e : Edge := { idle with rspReady := true }
    (oneResponse e).edges = [e] ∧ e.rst = false ∧ e.reqValid = false ∧ e.elapsed = false ∧ e.rspReady = true ∧
    (oneResponse idle).edges = [idle] ∧ idle.rst = false ∧ idle.reqValid = false ∧ idle.elapsed = false ∧
    idle.rspReady = false := by decide

/-- ExecuteNeedsARequestAndAFreeResponse: a response waits, PIPE is empty, and a request with RSP free. -/
theorem witness_execute :
    let e : Edge := { idle with elapsed := true }
    e.rst = false ∧ e.reqValid = false ∧ e.rspReady = false ∧ e.elapsed = true ∧
    ((oneResponse e).edges = [e] ∧ (oneResponse e).rsp.valid = true) ∧
    (({ oneRequest e with pipe := [] } : State).edges = [e] ∧ ({ oneRequest e with pipe := [] } : State).pipe = []) ∧
    ((oneRequest e).edges = [e] ∧ (oneRequest e).rsp.valid = false ∧ (oneRequest e).pipe = [q1]) := by decide

/-- StepRunsTheDecodedInstruction: RSP free, and RSP taken at the same edge. -/
theorem witness_step_runs :
    let e : Edge := { offer with elapsed := true, rspReady := true }
    e.rst = false ∧ e.elapsed = true ∧
    ((oneRequest e).edges = [e] ∧ (oneRequest e).pipe = [q1] ∧ (oneRequest e).rsp.valid = false) ∧
    ((oneResponse e).edges = [e] ∧ (oneResponse e).pipe = [q1] ∧ e.rspReady = true) := by decide

/-- ClockEdgeOrder, WaitingResponseStays and DoneStateOnlyAcceptsOrResets. -/
theorem witness_clock_edge :
    (oneRequest offer).edges = [offer] ∧ offer.rst = false ∧
    (oneResponse offer).edges = [offer] ∧ offer.rspReady = false ∧ (oneResponse offer).rsp.valid = true ∧
    ({ State.reset with edges := [idle] } : State).pipe = [] ∧ State.reset.rsp.valid = false ∧ idle.reqValid = false := by
  decide

/-- EmptyScheduleLeavesCoreToItself. -/
theorem witness_empty_schedule : ({ State.reset with pipe := [q1] } : State).edges = [] := by decide

/-- EveryStepKeepsTheInvariant: a state with a request in PIPE and a colour in RSP. -/
theorem witness_invariant : (oneResponse offer).Inv where
  depthPositive := by decide
  pipeBound := by decide
  canonical := { red := by decide, green := by decide, blue := by decide, alpha := by decide }
  formed :=
    { errorEmpty := by decide
      textColourless := by decide
      lenBound := by decide
      text := fun i h => absurd h (by simp [oneResponse, p1])
      padding := fun i _ _ => by simp [oneResponse, p1, lane] }

/-- EveryStepKeepsTheResponseOrder, CountingResponsesTellsTheEnd and the last case of ResponsesComeInRequestOrder: the state
after reset, nothing seen yet. -/
theorem witness_order :
    State.reset.InOrder { accepted := [], delivered := [] } ∧ State.reset.Done := ⟨rfl, rfl, rfl⟩

/-- BackPressureLosesNothing: DEPTH edges that all offer a request and take no response. -/
theorem witness_back_pressure :
    let s : State := { oneResponse offer with depth := 2, edges := [offer, offer] }
    s.rsp.valid = true ∧ s.pipe.length ≤ s.depth ∧ (∀ e ∈ s.edges, e.rst = false ∧ e.rspReady = false) ∧
    (∀ e ∈ s.edges, e.reqValid = true) ∧ s.depth ≤ s.edges.length ∧ s.depth ≤ 2 := by decide

/-- Three edges at which the host takes any response; execution is due at the last two; an offer at each or none. -/
def taking (offering : Bool) : List Edge :=
  let wait : Edge := { offer with reqValid := offering, rspReady := true }
  [wait, { wait with elapsed := true }, { wait with elapsed := true }]

/-- WillingHostDrainsThePipe: a response waits and one request is in PIPE; with offers, and without. -/
theorem witness_drain :
    ∀ offering : Bool,
      let s : State := { oneResponse idle with edges := taking offering ++ [idle] }
      s.edges = taking offering ++ [idle] ∧ (∀ e ∈ taking offering, e.rst = false ∧ e.rspReady = true) ∧
      s.pipe.length + 1 ≤ (taking offering).countP Edge.elapsed ∧ (∀ e ∈ taking false, e.reqValid = false) := by
  decide

/-- WillingHostDrainsThePipe, its clause about what was accepted before; the response that waits is the first request's. -/
theorem witness_drain_order :
    ({ oneResponse idle with edges := taking true ++ [idle] } : State).InOrder
      { accepted := [q1, q1], delivered := [] } := by
  unfold State.InOrder
  decide +kernel

/-- TimingDoesNotDependOnData and EveryStepKeepsTheSameTiming: two states whose request, response and offer differ. -/
theorem witness_same_timing :
    (oneResponse offer).SameTiming
      { oneResponse { offer with reqCmd := 0x1E, reqData := 0 } with
        pipe := [{ cmd := 0x04, data := 0 }], rsp := { p1 with r := 0 } } where
  pipe := by decide
  valid := by decide
  depth := by decide
  edges := by decide

/-- RecordFieldsReachTheirChannels: the widest fields of the narrowest and of the widest variant. -/
theorem witness_record :
    (AsmOperand.record 3 0 3 1).wellFormed .rgba8 = true ∧
    (AsmOperand.record (2 ^ 64 - 1) 0 (2 ^ 64 - 1) 1).wellFormed .rgba256 = true := by decide

end Sys2Proof.Tests
end

/-! ### Every response is a result record (spec/30_encoding.md R65)

`exec` writes one of three kinds of result record, whatever the state. This is said once, in `exec_writes_result`; what
holds of all responses is then proved for the three kinds, and not for the 24 instructions. -/

namespace Sys2Proof.Machine

/-- A quadruple in canonical form (R17). That no channel exceeds `0xFFFF` lies in the width. -/
structure Channels.Canonical (q : Channels 16) : Prop where
  red : q.r.toNat ≤ q.a.toNat
  green : q.g.toNat ≤ q.a.toNat
  blue : q.b.toNat ≤ q.a.toNat

/-- The result records that instructions write (R65): a canonical quadruple, a hexadecimal text that fits the bus, or the
error response. -/
inductive Response.IsResult : Response → Prop where
  | premul (q : Channels 16) (canonical : Channels.Canonical q) : IsResult (premulResult q)
  | hex (s : List Byte) (fits : s.length ≤ 64) (digits : s ⊆ hexAlphabet) : IsResult (hexResult s)
  | error : IsResult errorResult

/-! #### The quadruple of a PREMUL command -/

theorem premul16_le_alpha (c a : BitVec 16) : (premul16 c a).toNat ≤ a.toNat := by
  have hc : c.toNat ≤ 0xFFFF := Nat.le_of_lt_succ c.isLt
  rw [premul16_toNat]
  exact Nat.div_le_of_le_mul (Nat.mul_le_mul_right _ hc)

theorem grayPremul_canonical {n : Nat} (v : BitVec n) : Channels.Canonical (grayPremul v) :=
  have hy : (scale16 v).toNat ≤ 0xFFFF := Nat.le_of_lt_succ (scale16 v).isLt
  ⟨hy, hy, hy⟩

theorem rgbaPremul_canonical {n : Nat} (k : Nat) (opd : BitVec n) : Channels.Canonical (rgbaPremul k opd) :=
  ⟨premul16_le_alpha _ _, premul16_le_alpha _ _, premul16_le_alpha _ _⟩

theorem isResult_grayPremul {n : Nat} (v : BitVec n) : (premulResult (grayPremul v)).IsResult :=
  .premul _ (grayPremul_canonical v)

theorem isResult_rgbaPremul {n : Nat} (k : Nat) (opd : BitVec n) : (premulResult (rgbaPremul k opd)).IsResult :=
  .premul _ (rgbaPremul_canonical k opd)

/-! #### The text of a HEX command -/

theorem hexDigit_mem_alphabet : ∀ n : BitVec 4, hexDigit n ∈ hexAlphabet := by decide

theorem hexStr_subset_alphabet {w : Nat} (v : BitVec w) : hexStr v ⊆ hexAlphabet := by
  intro c hc
  obtain ⟨j, -, rfl⟩ := List.mem_map.mp hc
  exact hexDigit_mem_alphabet _

theorem grayHex_subset_alphabet {w : Nat} (v : BitVec w) : grayHex v ⊆ hexAlphabet := by
  have alphaDigits : List.replicate (w / 4) (0x66#8) ⊆ hexAlphabet := by
    intro c hc
    rw [List.eq_of_mem_replicate hc]
    decide
  simp only [grayHex, List.append_subset]
  exact ⟨⟨⟨hexStr_subset_alphabet v, hexStr_subset_alphabet v⟩, hexStr_subset_alphabet v⟩, alphaDigits⟩

/-- A grey of at most 64 bits has at most 64 characters, its synthetic alpha included (R105). -/
theorem isResult_grayHex {w : Nat} (hw : w ≤ 64) (v : BitVec w) : (hexResult (grayHex v)).IsResult :=
  .hex _ (by rw [length_grayHex]; omega) (grayHex_subset_alphabet v)

theorem isResult_rgbaHex {w : Nat} (hw : w ≤ 256) (opd : BitVec w) : (hexResult (rgbaHex opd)).IsResult :=
  .hex _ (by rw [length_rgbaHex]; omega) (hexStr_subset_alphabet opd)

/-! #### What an instruction does -/

/-- Every instruction writes one result record, the same in every state, and does nothing else (R64, R65). -/
theorem exec_writes_result (i : Instr) : ∃ p : Response, p.IsResult ∧ ∀ s, exec i s = .next (s.respond p) := by
  cases i with
  | premulGray8 v => exact ⟨_, isResult_grayPremul v, fun s => exec_premulGray8 s v⟩
  | premulGray16 v => exact ⟨_, isResult_grayPremul v, fun s => exec_premulGray16 s v⟩
  | premulGray32 v => exact ⟨_, isResult_grayPremul v, fun s => exec_premulGray32 s v⟩
  | premulGray64 v => exact ⟨_, isResult_grayPremul v, fun s => exec_premulGray64 s v⟩
  | premulRgba8 opd => exact ⟨_, isResult_rgbaPremul 2 opd, fun s => exec_premulRgba8 s opd⟩
  | premulRgba16 opd => exact ⟨_, isResult_rgbaPremul 4 opd, fun s => exec_premulRgba16 s opd⟩
  | premulRgba32 opd => exact ⟨_, isResult_rgbaPremul 8 opd, fun s => exec_premulRgba32 s opd⟩
  | premulRgba64 opd => exact ⟨_, isResult_rgbaPremul 16 opd, fun s => exec_premulRgba64 s opd⟩
  | premulRgba128 opd => exact ⟨_, isResult_rgbaPremul 32 opd, fun s => exec_premulRgba128 s opd⟩
  | premulRgba256 opd => exact ⟨_, isResult_rgbaPremul 64 opd, fun s => exec_premulRgba256 s opd⟩
  | hexGray8 v => exact ⟨_, isResult_grayHex (by decide) v, fun s => exec_hexGray8 s v⟩
  | hexGray16 v => exact ⟨_, isResult_grayHex (by decide) v, fun s => exec_hexGray16 s v⟩
  | hexGray32 v => exact ⟨_, isResult_grayHex (by decide) v, fun s => exec_hexGray32 s v⟩
  | hexGray64 v => exact ⟨_, isResult_grayHex (by decide) v, fun s => exec_hexGray64 s v⟩
  | hexRgba8 opd => exact ⟨_, isResult_rgbaHex (by decide) opd, fun s => exec_hexRgba8 s opd⟩
  | hexRgba16 opd => exact ⟨_, isResult_rgbaHex (by decide) opd, fun s => exec_hexRgba16 s opd⟩
  | hexRgba32 opd => exact ⟨_, isResult_rgbaHex (by decide) opd, fun s => exec_hexRgba32 s opd⟩
  | hexRgba64 opd => exact ⟨_, isResult_rgbaHex (by decide) opd, fun s => exec_hexRgba64 s opd⟩
  | hexRgba128 opd => exact ⟨_, isResult_rgbaHex (by decide) opd, fun s => exec_hexRgba128 s opd⟩
  | hexRgba256 opd => exact ⟨_, isResult_rgbaHex (by decide) opd, fun s => exec_hexRgba256 s opd⟩
  | reserved04 x => exact ⟨_, .error, fun s => exec_reserved04 s x⟩
  | reserved0E x => exact ⟨_, .error, fun s => exec_reserved0E s x⟩
  | reserved14 x => exact ⟨_, .error, fun s => exec_reserved14 s x⟩
  | reserved1E x => exact ⟨_, .error, fun s => exec_reserved1E s x⟩

/-- `responseTo` is read off `exec` at reset, and it is what `exec` writes in every other state too. -/
theorem exec_decode (q : Request) (s : State) : exec (decode q) s = .next (s.respond (responseTo q)) := by
  obtain ⟨p, -, hp⟩ := exec_writes_result (decode q)
  simp [responseTo, hp]

theorem responseTo_isResult (q : Request) : (responseTo q).IsResult := by
  obtain ⟨p, hres, hp⟩ := exec_writes_result (decode q)
  simpa [responseTo, hp] using hres

/-! #### What holds of every result record -/

theorem Response.IsResult.valid {p : Response} (h : p.IsResult) : p.valid = true := by
  cases h <;> rfl

/-- Where the colour lanes are 0 the canonical form is plain (R17, R65). -/
theorem Response.Colourless.canonical {p : Response} (h : p.Colourless) : p.Canonical := by
  obtain ⟨hr, hg, hb, ha⟩ := h
  constructor <;> simp [hr, hg, hb, ha]

theorem hexResult_colourless (s : List Byte) : (hexResult s).Colourless := ⟨rfl, rfl, rfl, rfl⟩

theorem errorResult_colourless : errorResult.Colourless := ⟨rfl, rfl, rfl, rfl⟩

theorem premulResult_canonical {q : Channels 16} (h : Channels.Canonical q) : (premulResult q).Canonical where
  red := by simpa [premulResult] using h.red
  green := by simpa [premulResult] using h.green
  blue := by simpa [premulResult] using h.blue
  alpha := by simpa [premulResult] using Nat.le_of_lt_succ q.a.isLt

theorem Response.IsResult.canonical {p : Response} (h : p.IsResult) : p.Canonical := by
  cases h with
  | premul q hq => exact premulResult_canonical hq
  | hex s => exact (hexResult_colourless s).canonical
  | error => exact errorResult_colourless.canonical

theorem lane_zero (i : Nat) : lane 0 i = 0 := by simp [lane]

/-- Without characters the form asks only that an error response has no colour. -/
theorem formed_of_textless {p : Response} (hlen : p.len = 0) (hhex : p.hex = 0) (herr : p.err = true → p.Colourless) :
    p.Formed where
  errorEmpty he := ⟨hlen, herr he⟩
  textColourless h := absurd hlen h
  lenBound := by simp [hlen]
  text i hi := by simp [hlen] at hi
  padding i _ _ := by rw [hhex, lane_zero]

/-- The length field, of 7 bits, holds the length of every text that fits the bus. -/
theorem hexResult_len_toNat {s : List Byte} (hs : s.length ≤ 64) : (hexResult s).len.toNat = s.length := by
  simp only [hexResult, BitVec.toNat_ofNat]
  exact Nat.mod_eq_of_lt (by omega)

theorem hexResult_formed {s : List Byte} (fits : s.length ≤ 64) (digits : s ⊆ hexAlphabet) : (hexResult s).Formed where
  errorEmpty he := absurd he Bool.false_ne_true
  textColourless _ := hexResult_colourless s
  lenBound := by rwa [hexResult_len_toNat fits]
  text i hi := by
    rw [hexResult_len_toNat fits] at hi
    have hlane : lane (hexResult s).hex i = s[i] := by
      simp [hexResult, lane_pack s fits i (by omega), hi]
    rw [hlane]
    exact digits (List.getElem_mem hi)
  padding i hi h64 := by
    rw [hexResult_len_toNat fits] at hi
    simp [hexResult, lane_pack s fits i h64, hi]

theorem Response.IsResult.formed {p : Response} (h : p.IsResult) : p.Formed := by
  cases h with
  | premul q => exact formed_of_textless rfl rfl fun he => absurd he Bool.false_ne_true
  | hex s fits digits => exact hexResult_formed fits digits
  | error => exact formed_of_textless rfl rfl fun _ => errorResult_colourless

theorem reset_colourless : Response.reset.Colourless := ⟨rfl, rfl, rfl, rfl⟩

/-- `RSP` after reset is no result record, as no response is valid, but it has the form of one (R37). -/
theorem reset_formed : Response.reset.Formed := formed_of_textless rfl rfl fun _ => reset_colourless

/-! #### The statements about all instructions -/

/-- Settles O27, by `exec_writes_result`. -/
theorem responseIsAFunctionOfTheRequest : Obligations.ResponseIsAFunctionOfTheRequest := by
  intro i
  obtain ⟨p, hres, hp⟩ := exec_writes_result i
  exact ⟨p, hres.valid, hp⟩

/-- Settles O28: the three kinds of result record are canonical. -/
theorem everyResponseIsInCanonicalForm : Obligations.EveryResponseIsInCanonicalForm := by
  intro i s
  obtain ⟨p, hres, hp⟩ := exec_writes_result i
  exact ⟨s.respond p, hp s, hres.canonical⟩

end Sys2Proof.Machine

/-! ### One clock edge (spec/10_state.md R35)

`T_deliver` and `T_execute` come before `T_accept`, which looks at `req_ready` as it stood before the edge. So what the
first two may do to the state is a relation, `State.Drains`, and `clockEdge_cases` gives an edge in its terms. -/

namespace Sys2Proof.Machine

/-- What `T_deliver` and `T_execute` keep: `DEPTH` and the schedule; of `PIPE` they may take the oldest entries; and `RSP`
stays in canonical form and of the form of a result record. -/
structure State.Drains (s t : State) : Prop where
  depth : t.depth = s.depth
  edges : t.edges = s.edges
  pipe : t.pipe <:+ s.pipe
  canonical : s.rsp.Canonical → t.rsp.Canonical
  formed : s.rsp.Formed → t.rsp.Formed

theorem State.Drains.refl (s : State) : s.Drains s := ⟨rfl, rfl, List.suffix_rfl, id, id⟩

theorem State.Drains.trans {s t u : State} (h : s.Drains t) (h' : t.Drains u) : s.Drains u where
  depth := h'.depth.trans h.depth
  edges := h'.edges.trans h.edges
  pipe := h'.pipe.trans h.pipe
  canonical := h'.canonical ∘ h.canonical
  formed := h'.formed ∘ h.formed

/-- Neither form speaks of `RSP.valid`, the only field that `T_deliver` changes (R33). -/
theorem tDeliver_drains (s : State) : s.Drains (tDeliver s) := by
  rw [tDeliver_eq]
  exact ⟨rfl, rfl, List.suffix_rfl, fun ⟨hr, hg, hb, ha⟩ => ⟨hr, hg, hb, ha⟩,
    fun ⟨he, hc, hl, ht, hp⟩ => ⟨he, hc, hl, ht, hp⟩⟩

theorem tExecute_drains (s : State) : ∃ t : State, tExecute s = .next t ∧ s.Drains t := by
  obtain ⟨-, h⟩ | ⟨-, -, h⟩ | ⟨q, rest, -, hpipe, h⟩ := tExecute_cases s
  · exact ⟨s, h, .refl s⟩
  · exact ⟨s, h, .refl s⟩
  · have hres := responseTo_isResult q
    refine ⟨_, h.trans (exec_decode q _), rfl, rfl, ?_, fun _ => hres.canonical, fun _ => hres.formed⟩
    exact hpipe ▸ List.suffix_cons q rest

/-- What an edge can do: reset, or drain and then accept with the `req_ready` from before the edge (R35). -/
theorem clockEdge_cases (e : Edge) (s : State) :
    (e.rst = true ∧ clockEdge e s = .next (tReset s)) ∨
    (e.rst = false ∧ ∃ t : State, s.Drains t ∧
      clockEdge e s = .next (if e.reqValid then tAccept s.reqReady e.request t else t)) := by
  cases hrst : e.rst with
  | true => exact .inl ⟨rfl, clockEdge_reset hrst s⟩
  | false =>
    have hdeliver : s.Drains (if e.rspReady then tDeliver s else s) := by
      split
      · exact tDeliver_drains s
      · exact .refl s
    have hexecute : ∀ d : State, ∃ t : State,
        (if e.elapsed then tExecute d else .next d) = .next t ∧ d.Drains t := by
      intro d
      split
      · exact tExecute_drains d
      · exact ⟨d, rfl, .refl d⟩
    obtain ⟨t, ht, hdrains⟩ := hexecute (if e.rspReady then tDeliver s else s)
    exact .inr ⟨rfl, t, hdeliver.trans hdrains, by simp only [clockEdge, hrst, ht, thenNext]; rfl⟩

@[simp] theorem tAccept_depth (ready : Bool) (q : Request) (s : State) : (tAccept ready q s).depth = s.depth := by
  obtain ⟨-, h⟩ | ⟨-, h⟩ := tAccept_cases ready q s <;> simp [h]

@[simp] theorem tAccept_edges (ready : Bool) (q : Request) (s : State) : (tAccept ready q s).edges = s.edges := by
  obtain ⟨-, h⟩ | ⟨-, h⟩ := tAccept_cases ready q s <;> simp [h]

theorem clockEdge_keeps_depth_and_edges (e : Edge) (s : State) :
    ∃ t : State, clockEdge e s = .next t ∧ t.depth = s.depth ∧ t.edges = s.edges := by
  obtain ⟨-, h⟩ | ⟨-, t, hdrains, h⟩ := clockEdge_cases e s
  · exact ⟨_, h, rfl, rfl⟩
  · refine ⟨_, h, ?_⟩
    split
    · simp [hdrains.depth, hdrains.edges]
    · exact ⟨hdrains.depth, hdrains.edges⟩

/-- Settles O46: a step is a clock edge of the state with that edge taken off the schedule. -/
theorem everyStepGoesOn : Obligations.EveryStepGoesOn := fun s =>
  clockEdge_keeps_depth_and_edges s.nextEdge s.dropEdge

/-! #### The invariant -/

theorem State.Inv.tReset {s : State} (h : s.Inv) : (tReset s).Inv where
  depthPositive := h.depthPositive
  pipeBound := Nat.zero_le _
  canonical := reset_colourless.canonical
  formed := reset_formed

theorem State.Inv.drains {s t : State} (h : s.Inv) (hd : s.Drains t) : t.Inv where
  depthPositive := hd.depth ▸ h.depthPositive
  pipeBound := hd.depth ▸ hd.pipe.length_le.trans h.pipeBound
  canonical := hd.canonical h.canonical
  formed := hd.formed h.formed

/-- Draining makes `PIPE` no longer, so the room that `req_ready` showed before the edge is still there (R31, R35). -/
theorem State.Inv.tAccept_of_drains {s t : State} (h : s.Inv) (hd : s.Drains t) (q : Request) :
    (tAccept s.reqReady q t).Inv := by
  have ht : t.Inv := h.drains hd
  rw [tAccept_reqReady]
  split
  next hroom =>
    have hlen : t.pipe.length + 1 ≤ t.depth := by
      have := hd.pipe.length_le
      have := hd.depth
      omega
    exact ⟨ht.depthPositive, by simpa using hlen, ht.canonical, ht.formed⟩
  next => exact ht

theorem State.Inv.clockEdge {s : State} (h : s.Inv) (e : Edge) : ∃ t : State, clockEdge e s = .next t ∧ t.Inv := by
  obtain ⟨-, hedge⟩ | ⟨-, t, hdrains, hedge⟩ := clockEdge_cases e s
  · exact ⟨_, hedge, h.tReset⟩
  · refine ⟨_, hedge, ?_⟩
    split
    · exact h.tAccept_of_drains hdrains e.request
    · exact h.drains hdrains

/-- The invariant does not speak of the schedule. -/
theorem State.Inv.dropEdge {s : State} (h : s.Inv) : s.dropEdge.Inv :=
  ⟨h.depthPositive, h.pipeBound, h.canonical, h.formed⟩

/-- Settles O48: a clock edge keeps the invariant, by the cases of `clockEdge_cases`. -/
theorem everyStepKeepsTheInvariant : Obligations.EveryStepKeepsTheInvariant := fun s h =>
  h.dropEdge.clockEdge s.nextEdge

/-- Settles O49. -/
theorem resetSatisfiesTheInvariant : Obligations.ResetSatisfiesTheInvariant := fun _ _ hdepth =>
  ⟨hdepth, Nat.zero_le _, reset_colourless.canonical, reset_formed⟩

end Sys2Proof.Machine

/-! ### Scaling (spec/00_scope.md R11 to R15)

A field of 2, 4, 8 or 16 bits is multiplied by a positive constant that takes `2^k - 1` to `0xFFFF`; of a wider one the
top 16 bits are kept. Each part of R15 follows from one of these two equations. -/

namespace Sys2Proof.Machine

section Expand

variable {k : Nat}

theorem le_16_of_mem_expanded (hk : k ∈ [2, 4, 8, 16]) : k ≤ 16 := by
  revert k
  decide

/-- `M_k` is `0xFFFF / (2^k - 1)`, and exactly so (R11). -/
theorem full_mul_multiplier (hk : k ∈ [2, 4, 8, 16]) : (2 ^ k - 1) * multiplier k = 0xFFFF := by
  revert k
  decide

theorem multiplier_pos (hk : k ∈ [2, 4, 8, 16]) : 0 < multiplier k := by
  revert k
  decide

theorem multiplier_le (hk : k ∈ [2, 4, 8, 16]) : multiplier k ≤ 0xFFFF := by
  revert k
  decide

theorem scale16_toNat_eq_mul (hk : k ∈ [2, 4, 8, 16]) (v : BitVec k) :
    (scale16 v).toNat = v.toNat * multiplier k := by
  have hfull : multiplier k * (2 ^ k - 1) ≤ 0xFFFF := by rw [Nat.mul_comm, full_mul_multiplier hk]
  exact scale16_toNat_expand v (le_16_of_mem_expanded hk) hfull (multiplier_le hk)

theorem scale16_strictMono (hk : k ∈ [2, 4, 8, 16]) {v w : BitVec k} (h : v.toNat < w.toNat) :
    (scale16 v).toNat < (scale16 w).toNat := by
  rw [scale16_toNat_eq_mul hk, scale16_toNat_eq_mul hk]
  exact Nat.mul_lt_mul_of_pos_right h (multiplier_pos hk)

theorem scale16_injective (hk : k ∈ [2, 4, 8, 16]) {v w : BitVec k} (h : scale16 v = scale16 w) : v = w := by
  have hmul : v.toNat * multiplier k = w.toNat * multiplier k := by
    rw [← scale16_toNat_eq_mul hk, ← scale16_toNat_eq_mul hk, h]
  exact BitVec.eq_of_toNat_eq (Nat.eq_of_mul_eq_mul_right (multiplier_pos hk) hmul)

end Expand

section Truncate

variable {k : Nat}

/-- Truncation keeps the top 16 bits (R14). -/
theorem scale16_eq_top (hk : 16 < k) (v : BitVec k) : scale16 v = v.extractLsb' (k - 16) 16 := by
  apply BitVec.eq_of_toNat_eq
  simp [scale16, Nat.not_le.mpr hk]

theorem scale16_eq_iff_mem_block (hk : 16 < k) (v : BitVec k) (y : BitVec 16) :
    scale16 v = y ↔
      y.toNat * 2 ^ (k - 16) ≤ v.toNat ∧ v.toNat < y.toNat * 2 ^ (k - 16) + 2 ^ (k - 16) := by
  have hpos : 0 < 2 ^ (k - 16) := by positivity
  rw [← BitVec.toNat_inj, scale16_toNat_truncate v hk, Nat.div_eq_iff hpos]
  omega

end Truncate

section AllWidths

variable {k : Nat}

theorem expanded_or_truncated (hk : k ∈ [2, 4, 8, 16, 32, 64]) : k ∈ [2, 4, 8, 16] ∨ 16 < k := by
  revert k
  decide

theorem scale16_zero (k : Nat) : scale16 (0#k) = 0 := by
  simp [scale16]

theorem scale16_mono (hk : k ∈ [2, 4, 8, 16] ∨ 16 < k) {v w : BitVec k} (h : v.toNat ≤ w.toNat) :
    (scale16 v).toNat ≤ (scale16 w).toNat := by
  obtain hexp | htrunc := hk
  · rw [scale16_toNat_eq_mul hexp, scale16_toNat_eq_mul hexp]
    exact Nat.mul_le_mul_right _ h
  · rw [scale16_toNat_truncate v htrunc, scale16_toNat_truncate w htrunc]
    exact Nat.div_le_div_right h

theorem scale16_full (hk : k ∈ [2, 4, 8, 16] ∨ 16 < k) : scale16 (BitVec.ofNat k (2 ^ k - 1)) = 0xFFFF := by
  obtain hexp | htrunc := hk
  · apply BitVec.eq_of_toNat_eq
    rw [scale16_toNat_eq_mul hexp, BitVec.toNat_ofNat, Nat.mod_eq_of_lt (Nat.sub_one_lt (by positivity)),
      full_mul_multiplier hexp]
    rfl
  · have hpow : 2 ^ k = 2 ^ 16 * 2 ^ (k - 16) := by rw [← Nat.pow_add, Nat.add_sub_cancel' htrunc.le]
    have hpos : 0 < 2 ^ (k - 16) := by positivity
    rw [scale16_eq_iff_mem_block htrunc, BitVec.toNat_ofNat, Nat.mod_eq_of_lt (Nat.sub_one_lt (by positivity)), hpow]
    change 0xFFFF * 2 ^ (k - 16) ≤ _ ∧ _ < 0xFFFF * 2 ^ (k - 16) + _
    omega

end AllWidths

/-- Settles O30. -/
theorem scalingProperties : Obligations.ScalingProperties := by
  intro k hk v w
  have hwidth := expanded_or_truncated hk
  have hexp : k ≤ 16 → k ∈ [2, 4, 8, 16] := fun h => hwidth.resolve_right (Nat.not_lt.mpr h)
  refine ⟨Nat.le_of_lt_succ (scale16 v).isLt, scale16_zero k, scale16_full hwidth, scale16_mono hwidth,
    fun h => scale16_strictMono (hexp h), fun h => scale16_injective (hexp h),
    fun h => scale16_eq_iff_mem_block h v, fun h => ?_⟩
  rw [scale16_eq_top h]
  rfl

end Sys2Proof.Machine

/-! ### The state after one step (spec/10_state.md R31 to R35)

A step never stops (`everyStepGoesOn`), so it is a function on states, `State.after`. At an edge without reset at most one
response is delivered, at most one request is executed and at most one is accepted: three lists of at most one entry, in
whose terms the next state and the host's view of the edge are given. -/

namespace Sys2Proof.Machine

/-- `RSP` once the host has had its turn to take the response (R33, R35). -/
def State.kept (s : State) : Response :=
  if s.nextEdge.rspReady then { s.rsp with valid := false } else s.rsp

/-- The response delivered at the coming edge (R33). -/
def State.delivers (s : State) : List Response :=
  if s.nextEdge.rspReady && s.rsp.valid then [s.rsp] else []

/-- The request executed at the coming edge: the oldest one, if the latency has elapsed and `RSP` is free by then (R32). -/
def State.executes (s : State) : List Request :=
  if s.nextEdge.elapsed && !s.kept.valid then s.pipe.take 1 else []

/-- The request accepted at the coming edge, with `req_ready` as it stands before the edge (R31, R35). -/
def State.accepts (s : State) : List Request :=
  if s.nextEdge.reqValid && s.reqReady then [s.nextEdge.request] else []

/-- The state between execution and acceptance at an edge without reset (R35). -/
def State.executed (s : State) : State :=
  { s.dropEdge with
    pipe := s.pipe.drop s.executes.length
    rsp := (s.executes.map responseTo).headD s.kept }

/-- The state after one step; `step_eq` ties it to `step`. -/
def State.after (s : State) : State :=
  if s.nextEdge.rst then tReset s.dropEdge
  else { s.executed with pipe := s.executed.pipe ++ s.accepts }

section Turns

variable {s : State}

theorem kept_of_ready (h : s.nextEdge.rspReady = true) : s.kept = { s.rsp with valid := false } := by
  simp [State.kept, h]

theorem kept_of_not_ready (h : s.nextEdge.rspReady = false) : s.kept = s.rsp := by
  simp [State.kept, h]

theorem kept_valid (s : State) : s.kept.valid = (s.rsp.valid && !s.nextEdge.rspReady) := by
  cases h : s.nextEdge.rspReady with
  | true => simp [kept_of_ready h]
  | false => simp [kept_of_not_ready h]

theorem executes_of_pipe_nil (h : s.pipe = []) : s.executes = [] := by
  simp [State.executes, h]

theorem executes_of_not_due (h : ¬(s.nextEdge.elapsed = true ∧ s.kept.valid = false)) : s.executes = [] := by
  simpa [State.executes] using fun he hk => absurd ⟨he, hk⟩ h

theorem executes_of_kept_valid (h : s.kept.valid = true) : s.executes = [] :=
  executes_of_not_due fun hdue => Bool.false_ne_true (hdue.2.symm.trans h)

theorem executes_of_due {q : Request} {rest : List Request} (he : s.nextEdge.elapsed = true)
    (hk : s.kept.valid = false) (hp : s.pipe = q :: rest) : s.executes = [q] := by
  simp [State.executes, he, hk, hp]

/-- The request executed is the oldest of `PIPE`. -/
theorem executes_append_drop (s : State) : s.executes ++ s.pipe.drop s.executes.length = s.pipe := by
  unfold State.executes
  split
  · cases s.pipe <;> rfl
  · rfl

theorem accepts_of_not_offered (h : s.nextEdge.reqValid = false) : s.accepts = [] := by
  simp [State.accepts, h]

theorem deliver_turn (s : State) :
    (if s.nextEdge.rspReady then tDeliver s.dropEdge else s.dropEdge) = s.dropEdge.respond s.kept := by
  split
  next h => rw [kept_of_ready h]; exact tDeliver_eq s.dropEdge
  next h => rw [kept_of_not_ready (Bool.eq_false_of_not_eq_true h)]; rfl

theorem executed_of_idle (h : s.executes = []) : s.executed = s.dropEdge.respond s.kept := by
  rw [State.executed, h]
  rfl

theorem execute_turn (s : State) :
    (if s.nextEdge.elapsed then tExecute (s.dropEdge.respond s.kept) else .next (s.dropEdge.respond s.kept)) =
      .next s.executed := by
  split
  next he =>
    obtain ⟨hk, h⟩ | ⟨-, hp, h⟩ | ⟨q, rest, hk, hp, h⟩ := tExecute_cases (s.dropEdge.respond s.kept)
    · rw [h, executed_of_idle (executes_of_kept_valid hk)]
    · rw [h, executed_of_idle (executes_of_pipe_nil (s := s) hp)]
    · have hp : s.pipe = q :: rest := hp
      rw [h, exec_decode, State.executed, executes_of_due he hk hp, hp]
      rfl
  next he => rw [executed_of_idle (executes_of_not_due fun hdue => he hdue.1)]

theorem accept_turn (s t : State) :
    (if s.nextEdge.reqValid then tAccept s.reqReady s.nextEdge.request t else t) =
      { t with pipe := t.pipe ++ s.accepts } := by
  cases hv : s.nextEdge.reqValid <;> cases hr : s.reqReady <;>
    simp [State.accepts, hv, hr, tAccept, State.enqueue]

theorem step_eq (s : State) : step s = .next s.after := by
  cases hrst : s.nextEdge.rst with
  | true =>
    have hafter : s.after = tReset s.dropEdge := by simp [State.after, hrst]
    exact hafter ▸ clockEdge_reset hrst s.dropEdge
  | false =>
    calc step s
      _ = thenNext (if s.nextEdge.elapsed then tExecute (s.dropEdge.respond s.kept)
            else .next (s.dropEdge.respond s.kept))
          (fun t => if s.nextEdge.reqValid then tAccept s.reqReady s.nextEdge.request t else t) := by
        rw [← deliver_turn]
        simp [step, nextClockEdge, clockEdge, hrst]
      _ = .next s.after := by
        simp [execute_turn, accept_turn, thenNext, State.after, hrst]

theorem after_of_rst (h : s.nextEdge.rst = true) : s.after = tReset s.dropEdge := by
  simp [State.after, h]

theorem after_of_not_rst (h : s.nextEdge.rst = false) :
    s.after =
      { pipe := s.pipe.drop s.executes.length ++ s.accepts
        rsp := (s.executes.map responseTo).headD s.kept
        depth := s.depth
        edges := s.edges.tail } := by
  rw [State.after, h]
  rfl

@[simp] theorem after_depth (s : State) : s.after.depth = s.depth := by
  unfold State.after
  split <;> rfl

@[simp] theorem after_edges (s : State) : s.after.edges = s.edges.tail := by
  unfold State.after
  split <;> rfl

end Turns

end Sys2Proof.Machine

/-! #### One edge of a schedule (spec/10_state.md R31 to R36) -/

namespace Sys2Proof.Machine

section Coming

variable {s : State} {e : Edge} {es : List Edge}

theorem accepts_eq_ite (h : s.edges = e :: es) :
    s.accepts = if e.reqValid = true ∧ s.pipe.length < s.depth then [{ cmd := e.reqCmd, data := e.reqData }] else [] := by
  simp [State.accepts, State.reqReady, Edge.request, nextEdge_cons s e es h]

theorem kept_eq (h : s.edges = e :: es) : s.kept = { s.rsp with valid := s.rsp.valid && !e.rspReady } := by
  obtain rfl : s.nextEdge = e := nextEdge_cons s e es h
  cases hready : s.nextEdge.rspReady with
  | true => simp [kept_of_ready hready]
  | false => simp [kept_of_not_ready hready]

theorem kept_of_free (h : s.rsp.valid = false) : s.kept = s.rsp := by
  unfold State.kept
  split
  · rw [← h]
  · rfl

/-- An edge without reset at which no request is executed (R31, R33). -/
theorem step_of_not_executing (h : s.edges = e :: es) (hrst : e.rst = false) (hidle : s.executes = []) :
    step s = .next { s with pipe := s.pipe ++ s.accepts, rsp := s.kept, edges := es } := by
  rw [step_eq, after_of_not_rst (nextEdge_cons s e es h ▸ hrst), hidle, h]
  rfl

/-- An edge without reset at which the oldest request is executed (R32). -/
theorem step_of_executing (h : s.edges = e :: es) (hrst : e.rst = false) {q : Request} {rest : List Request}
    (helapsed : e.elapsed = true) (hfree : s.kept.valid = false) (hpipe : s.pipe = q :: rest) :
    step s = .next { s with pipe := rest ++ s.accepts, rsp := responseTo q, edges := es } := by
  have hnext : s.nextEdge = e := nextEdge_cons s e es h
  rw [step_eq, after_of_not_rst (hnext ▸ hrst), executes_of_due (hnext ▸ helapsed) hfree hpipe, hpipe, h]
  rfl

theorem executes_of_not_elapsed (h : s.edges = e :: es) (helapsed : e.elapsed = false) : s.executes = [] :=
  executes_of_not_due fun hdue => by simp [nextEdge_cons s e es h, helapsed] at hdue

end Coming

/-- Settles O44, by the cases in which the edge executes a request. -/
theorem clockEdgeOrder : Obligations.ClockEdgeOrder := by
  intro s e es hedges hrst offered kept
  have haccepts : s.accepts = offered := accepts_eq_ite hedges
  have hkept : s.kept = kept := kept_eq hedges
  cases hpipe : s.pipe with
  | nil =>
    rw [step_of_not_executing hedges hrst (executes_of_pipe_nil hpipe), haccepts, hkept, hpipe]
    rfl
  | cons q rest =>
    dsimp only
    split
    next hdue => rw [step_of_executing hedges hrst hdue.1 (hkept ▸ hdue.2) hpipe, haccepts]
    next hidle =>
      have hexecutes : s.executes = [] := by
        apply executes_of_not_due
        rwa [nextEdge_cons s e es hedges, hkept]
      rw [step_of_not_executing hedges hrst hexecutes, haccepts, hkept, hpipe]

/-- Settles O40. -/
theorem acceptAppendsTheRequest : Obligations.AcceptAppendsTheRequest := by
  intro s e es hedges hrst hvalid hready helapsed
  rw [step_of_not_executing hedges hrst (executes_of_not_elapsed hedges helapsed), accepts_eq_ite hedges,
    kept_of_not_ready (nextEdge_cons s e es hedges ▸ hready)]
  constructor
  · intro hroom
    simp [hvalid, hroom]
  · intro hfull
    simp [Nat.not_lt.mpr hfull]

/-- Settles O41. -/
theorem deliverReleasesTheResponse : Obligations.DeliverReleasesTheResponse := by
  intro s e es hedges hrst hvalid helapsed
  rw [step_of_not_executing hedges hrst (executes_of_not_elapsed hedges helapsed), accepts_eq_ite hedges]
  constructor
  · intro hready
    simp [hvalid, kept_eq hedges, hready]
  · intro hready
    simp [hvalid, kept_of_not_ready (nextEdge_cons s e es hedges ▸ hready)]

/-- Settles O42. -/
theorem executeNeedsARequestAndAFreeResponse : Obligations.ExecuteNeedsARequestAndAFreeResponse := by
  intro s e es hedges hrst hvalid hready helapsed
  have hkept : s.kept = s.rsp := kept_of_not_ready (nextEdge_cons s e es hedges ▸ hready)
  have haccepts : s.accepts = [] := by simp [accepts_eq_ite hedges, hvalid]
  constructor
  · intro hidle
    have hexecutes : s.executes = [] :=
      hidle.elim (fun hbusy => executes_of_kept_valid (hkept ▸ hbusy)) executes_of_pipe_nil
    rw [step_of_not_executing hedges hrst hexecutes, hkept, haccepts, List.append_nil]
  · intro q rest hfree hpipe
    rw [step_of_executing hedges hrst helapsed (hkept ▸ hfree) hpipe, haccepts, List.append_nil]

/-- Settles O43. -/
theorem stepRunsTheDecodedInstruction : Obligations.StepRunsTheDecodedInstruction := by
  intro s e es q rest hedges hrst helapsed hpipe hfree
  have hkept : s.kept.valid = false := by
    rw [kept_eq hedges]
    rcases hfree with hfree | hready
    · simp [hfree]
    · simp [hready]
  rw [step_of_executing hedges hrst helapsed hkept hpipe, accepts_eq_ite hedges, exec_decode]
  simp only [thenNext]
  split
  · rfl
  · rw [List.append_nil]
    rfl

/-- Settles O45: the edge that stands in for an empty schedule asks for `T_execute` only. -/
theorem emptyScheduleLeavesCoreToItself : Obligations.EmptyScheduleLeavesCoreToItself := by
  intro s hedges
  have hdrop : s.dropEdge = s := by rw [State.dropEdge, hedges, List.tail_nil, ← hedges]
  obtain ⟨t, hexecute, -⟩ := tExecute_drains s
  simp [step, nextClockEdge, nextEdge_nil s hedges, hdrop, clockEdge, Edge.quiet, hexecute, thenNext]

/-- Settles O58. -/
theorem doneStateOnlyAcceptsOrResets : Obligations.DoneStateOnlyAcceptsOrResets := by
  intro s e es hedges hdone hrst hvalid
  obtain ⟨hpipe, hfree⟩ := hdone
  rw [step_of_not_executing hedges hrst (executes_of_pipe_nil hpipe), kept_of_free hfree, accepts_eq_ite hedges]
  simp [hvalid]

/-- Settles O38. -/
theorem resetStateIsAllZero : Obligations.ResetStateIsAllZero := by
  intro depth hdepth
  exact ⟨rfl, rfl, rfl, rfl, rfl, rfl, rfl, rfl, rfl, decide_eq_true hdepth, rfl⟩

/-- Settles O59. -/
theorem outputPortsShowTheState : Obligations.OutputPortsShowTheState := fun _ =>
  ⟨rfl, rfl, rfl, rfl, rfl, rfl, rfl, rfl, rfl, fun _ => rfl⟩

end Sys2Proof.Machine

/-! #### The error flag (spec/10_state.md R26; spec/60_exceptions.md R126) -/

namespace Sys2Proof.Machine

/-- The instruction is one of the reserved rows of the opcode map (R62). -/
def isReserved : Instr → Bool
  | .reserved04 _ | .reserved0E _ | .reserved14 _ | .reserved1E _ => true
  | _ => false

/-- The response sets `RSP.err` exactly on the reserved rows, since `premul_result` and `hex_result` hold it 0 (R65). -/
theorem exec_err (i : Instr) (s : State) : ∃ t : State, exec i s = .next t ∧ t.rsp.err = isReserved i := by
  cases i <;> exact ⟨_, rfl, rfl⟩

theorem responseTo_err (q : Request) : (responseTo q).err = isReserved (decode q) := by
  obtain ⟨t, ht, herr⟩ := exec_err (decode q) State.reset
  obtain rfl : State.reset.respond (responseTo q) = t := by simpa [exec_decode] using ht
  exact herr

/-- Which row a request decodes to is a matter of its command word alone (R59, R60). -/
theorem isReserved_decode_data (c : Command) (d d' : Data) :
    isReserved (decode { cmd := c, data := d }) = isReserved (decode { cmd := c, data := d' }) := by
  unfold decode
  dsimp only
  split <;> rfl

theorem isReserved_decode (c : Command) (d : Data) :
    isReserved (decode { cmd := c, data := d }) = decide (c ∈ reservedWords) := by
  rw [isReserved_decode_data c d 0]
  revert c
  decide

/-- Settles O26. -/
theorem errorFlagMarksReservedWords : Obligations.ErrorFlagMarksReservedWords := by
  intro c d s
  refine ⟨_, exec_decode _ s, (responseTo_isResult _).valid, ?_⟩
  rw [respond_rsp, responseTo_err, isReserved_decode, decide_eq_true_iff]

end Sys2Proof.Machine

/-! ### The order of the responses (spec/10_state.md R34, R36, R53)

`HostView.responses` lists the responses given, waiting and still to come. An edge without reset moves responses along this
list and adds at its end those to the requests it accepts; `HostView.Grows` says so of an edge and, as it is transitive, of
every run without reset. -/

namespace Sys2Proof.Machine

/-- The responses to all the requests accepted so far: those delivered, the one that waits and those to `PIPE` (R34). -/
def HostView.responses (v : HostView) (s : State) : List Response :=
  v.delivered ++ s.waiting ++ s.pipe.map responseTo

theorem inOrder_iff {s : State} {v : HostView} : s.InOrder v ↔ v.accepted.map responseTo = v.responses s := Iff.rfl

theorem waiting_eq_nil_iff {s : State} : s.waiting = [] ↔ s.rsp.valid = false := by
  cases h : s.rsp.valid <;> simp [State.waiting, h]

theorem done_iff {s : State} : s.Done ↔ s.waiting = [] ∧ s.pipe = [] := by
  rw [State.Done, waiting_eq_nil_iff, and_comm]

theorem length_responses (v : HostView) (s : State) :
    (v.responses s).length = v.delivered.length + s.waiting.length + s.pipe.length := by
  simp [HostView.responses, Nat.add_assoc]

theorem delivered_isPrefix_responses (v : HostView) (s : State) : v.delivered <+: v.responses s := by
  rw [HostView.responses, List.append_assoc]
  exact List.prefix_append _ _

theorem State.Done.responses {s : State} (h : s.Done) (v : HostView) : v.responses s = v.delivered := by
  obtain ⟨hwaiting, hpipe⟩ := done_iff.mp h
  simp [HostView.responses, hwaiting, hpipe]

/-- Nothing waits and nothing is in `PIPE` where as many responses were delivered as there are in all. -/
theorem done_of_length_responses_le {v : HostView} {s : State} (h : (v.responses s).length ≤ v.delivered.length) :
    s.Done := by
  rw [length_responses] at h
  exact done_iff.mpr ⟨List.eq_nil_of_length_eq_zero (by omega), List.eq_nil_of_length_eq_zero (by omega)⟩

/-- Settles O57. -/
theorem countingResponsesTellsTheEnd : Obligations.CountingResponsesTellsTheEnd := by
  intro s v horder
  have hlength : v.accepted.length = (v.responses s).length := by
    rw [← inOrder_iff.mp horder, List.length_map]
  constructor
  · intro hcount
    exact done_of_length_responses_le (hlength ▸ hcount.ge)
  · intro hdone
    rw [hlength, hdone.responses]

/-! #### One edge -/

section OneEdge

variable {s : State}

theorem observe_of_rst (h : s.nextEdge.rst = true) (v : HostView) :
    v.observe s = { accepted := [], delivered := [] } := by
  simp [HostView.observe, h]

theorem observe_of_not_rst (h : s.nextEdge.rst = false) (v : HostView) :
    v.observe s = { accepted := v.accepted ++ s.accepts, delivered := v.delivered ++ s.delivers } := by
  simp [HostView.observe, h, State.accepts, State.delivers, State.outputs]

/-- A response that is kept was not delivered, and nothing is executed before it is taken. -/
theorem turns_of_kept_valid (h : s.kept.valid = true) : s.delivers = [] ∧ s.executes = [] ∧ s.kept = s.rsp := by
  cases hready : s.nextEdge.rspReady with
  | true => simp [kept_valid, hready] at h
  | false => exact ⟨by simp [State.delivers, hready], executes_of_kept_valid h, kept_of_not_ready hready⟩

/-- Where no response is kept, the one that waited is delivered. -/
theorem delivers_of_kept_free (h : s.kept.valid = false) : s.delivers = s.waiting := by
  cases hready : s.nextEdge.rspReady with
  | true => simp [State.delivers, State.waiting, hready]
  | false =>
    have hfree : s.rsp.valid = false := by simpa [kept_valid, hready] using h
    simp [State.delivers, State.waiting, hfree]

theorem executes_eq_nil_or_singleton (s : State) : s.executes = [] ∨ ∃ q, s.executes = [q] := by
  unfold State.executes
  split
  · cases s.pipe with
    | nil => exact .inl rfl
    | cons q rest => exact .inr ⟨q, rfl⟩
  · exact .inl rfl

/-- `RSP` holds one response at a time: what waits and what is executed is delivered or waits after the edge (R32, R33). -/
theorem waiting_append_executes (h : s.nextEdge.rst = false) :
    s.waiting ++ s.executes.map responseTo = s.delivers ++ s.after.waiting := by
  cases hkept : s.kept.valid with
  | true =>
    obtain ⟨hdelivers, hexecutes, hrsp⟩ := turns_of_kept_valid hkept
    simp [State.waiting, after_of_not_rst h, hdelivers, hexecutes, hrsp]
  | false =>
    rw [delivers_of_kept_free hkept]
    congr 1
    obtain hexecutes | ⟨q, hexecutes⟩ := executes_eq_nil_or_singleton s
    · simp [State.waiting, after_of_not_rst h, hexecutes, hkept]
    · simp [State.waiting, after_of_not_rst h, hexecutes, (responseTo_isResult q).valid]

end OneEdge

/-- What the host saw between `(s, v)` and `(t, v')`, with `new` accepted meanwhile: nothing is taken back, and the responses
to `new` come after all the others (R34). -/
structure HostView.Grows (s : State) (v : HostView) (new : List Request) (t : State) (v' : HostView) : Prop where
  accepted : v'.accepted = v.accepted ++ new
  delivered : v.delivered <+: v'.delivered
  responses : v'.responses t = v.responses s ++ new.map responseTo

namespace HostView.Grows

variable {s t u : State} {v v' v'' : HostView} {new new' : List Request}

theorem refl (s : State) (v : HostView) : Grows s v [] s v :=
  ⟨by simp, List.prefix_rfl, by simp⟩

theorem trans (h : Grows s v new t v') (h' : Grows t v' new' u v'') : Grows s v (new ++ new') u v'' where
  accepted := by rw [h'.accepted, h.accepted, List.append_assoc]
  delivered := h.delivered.trans h'.delivered
  responses := by rw [h'.responses, h.responses, List.map_append, List.append_assoc]

theorem inOrder (h : Grows s v new t v') (horder : s.InOrder v) : t.InOrder v' := by
  rw [inOrder_iff, h.accepted, h.responses, List.map_append, inOrder_iff.mp horder]

theorem responses_isPrefix (h : Grows s v new t v') : v.responses s <+: v'.responses t :=
  h.responses ▸ List.prefix_append _ _

end HostView.Grows

theorem after_grows {s : State} (h : s.nextEdge.rst = false) (v : HostView) :
    HostView.Grows s v s.accepts s.after (v.observe s) where
  accepted := by rw [observe_of_not_rst h]
  delivered := by simp [observe_of_not_rst h]
  responses := by
    have hpipe : s.after.pipe = s.pipe.drop s.executes.length ++ s.accepts := by rw [after_of_not_rst h]
    calc (v.observe s).responses s.after
      _ = v.delivered ++ (s.delivers ++ s.after.waiting) ++
            (s.pipe.drop s.executes.length).map responseTo ++ s.accepts.map responseTo := by
        simp [HostView.responses, observe_of_not_rst h, hpipe]
      _ = v.delivered ++ s.waiting ++ (s.executes ++ s.pipe.drop s.executes.length).map responseTo ++
            s.accepts.map responseTo := by
        simp [← waiting_append_executes h]
      _ = v.responses s ++ s.accepts.map responseTo := by
        rw [executes_append_drop, HostView.responses]

theorem tReset_inOrder (s : State) : (tReset s).InOrder { accepted := [], delivered := [] } := rfl

theorem State.InOrder.after {s : State} {v : HostView} (horder : s.InOrder v) : s.after.InOrder (v.observe s) := by
  cases hrst : s.nextEdge.rst with
  | true => rw [after_of_rst hrst, observe_of_rst hrst]; exact tReset_inOrder _
  | false => exact (after_grows hrst v).inOrder horder

/-- Settles O50. -/
theorem everyStepKeepsTheResponseOrder : Obligations.EveryStepKeepsTheResponseOrder := fun s _ horder =>
  ⟨s.after, step_eq s, horder.after⟩

/-! #### Runs -/

theorem watch_succ (n : Nat) (s : State) (v : HostView) : watch (n + 1) s v = watch n s.after (v.observe s) := by
  simp [watch, step_eq]

theorem watch_inOrder (n : Nat) {s : State} {v : HostView} (horder : s.InOrder v) :
    ∃ (t : State) (v' : HostView), watch n s v = some (t, v') ∧ t.InOrder v' := by
  induction n generalizing s v with
  | zero => exact ⟨s, v, rfl, horder⟩
  | succ n ih => exact watch_succ n s v ▸ ih horder.after

theorem State.InOrder.delivered_isPrefix {s : State} {v : HostView} (horder : s.InOrder v) :
    v.delivered <+: v.accepted.map responseTo :=
  inOrder_iff.mp horder ▸ delivered_isPrefix_responses v s

/-- Settles O51: the order holds at reset, and every step keeps it. -/
theorem responsesComeInRequestOrder : Obligations.ResponsesComeInRequestOrder := by
  intro n depth es
  have hreset : { State.reset with depth := depth, edges := es }.InOrder { accepted := [], delivered := [] } := rfl
  obtain ⟨t, v, hwatch, horder⟩ := watch_inOrder n hreset
  have hdelivered := horder.delivered_isPrefix
  refine ⟨t, v, hwatch, horder, ?_, ?_, ?_⟩
  · intro hdone
    rw [inOrder_iff.mp horder, hdone.responses]
  · simpa using hdelivered.length_le
  · intro i hi
    rw [← List.getElem?_map, List.prefix_iff_getElem?.mp hdelivered i hi, List.getElem?_eq_getElem hi]

end Sys2Proof.Machine

/-! #### A willing host (spec/10_state.md R35; spec/70_reset_and_hazards.md R150)

By `HostView.Grows` the responses owed at the start come first in the list of all responses. So a run has delivered them
once it has delivered that many, and `watch_delivers_owed` counts: each edge at which execution is due moves one. -/

namespace Sys2Proof.Machine

theorem watch_goes_on (n : Nat) (s : State) (v : HostView) :
    ∃ (t : State) (v' : HostView), watch n s v = some (t, v') := by
  induction n generalizing s v with
  | zero => exact ⟨s, v, rfl⟩
  | succ n ih => exact watch_succ n s v ▸ ih s.after (v.observe s)

section Schedule

variable {s : State} {e : Edge} {es later : List Edge}

theorem nextEdge_of_edges (h : s.edges = e :: es ++ later) : s.nextEdge = e := nextEdge_cons s e (es ++ later) h

theorem after_edges_of_edges (h : s.edges = e :: es ++ later) : s.after.edges = es ++ later := by
  rw [after_edges, h]
  rfl

end Schedule

theorem watch_grows {es later : List Edge} {s t : State} {v v' : HostView} (hedges : s.edges = es ++ later)
    (hrst : ∀ e ∈ es, e.rst = false) (hwatch : watch es.length s v = some (t, v')) :
    ∃ new : List Request, HostView.Grows s v new t v' ∧ ((∀ e ∈ es, e.reqValid = false) → new = []) := by
  induction es generalizing s v with
  | nil =>
    obtain ⟨rfl, rfl⟩ : s = t ∧ v = v' := by simpa [watch] using hwatch
    exact ⟨[], .refl s v, fun _ => rfl⟩
  | cons e es ih =>
    obtain ⟨hrst, hrsts⟩ := List.forall_mem_cons.mp hrst
    have hnext : s.nextEdge = e := nextEdge_of_edges hedges
    rw [List.length_cons, watch_succ] at hwatch
    obtain ⟨new, hgrows, hnone⟩ := ih (after_edges_of_edges hedges) hrsts hwatch
    refine ⟨s.accepts ++ new, (after_grows (hnext ▸ hrst) v).trans hgrows, fun hquiet => ?_⟩
    obtain ⟨hquiet, hquiets⟩ := List.forall_mem_cons.mp hquiet
    rw [accepts_of_not_offered (hnext ▸ hquiet), hnone hquiets, List.append_nil]

section Willing

variable {s : State}

theorem kept_free_of_ready (h : s.nextEdge.rspReady = true) : s.kept.valid = false := by
  simp [kept_valid, h]

/-- A host that is ready takes the response that waits (R33). -/
theorem observe_delivered_of_ready (hrst : s.nextEdge.rst = false) (hready : s.nextEdge.rspReady = true)
    (v : HostView) : (v.observe s).delivered = v.delivered ++ s.waiting := by
  rw [observe_of_not_rst hrst, delivers_of_kept_free (kept_free_of_ready hready)]

/-- Then what waits after the edge is what the edge executes. -/
theorem after_waiting_of_ready (hrst : s.nextEdge.rst = false) (hready : s.nextEdge.rspReady = true) :
    s.after.waiting = s.executes.map responseTo := by
  have h := waiting_append_executes hrst
  rw [delivers_of_kept_free (kept_free_of_ready hready)] at h
  exact (List.append_cancel_left h).symm

theorem length_executes_of_ready (hready : s.nextEdge.rspReady = true) (helapsed : s.nextEdge.elapsed = true) :
    s.executes.length = min 1 s.pipe.length := by
  simp [State.executes, helapsed, kept_free_of_ready hready]

theorem length_after_pipe (hrst : s.nextEdge.rst = false) :
    s.after.pipe.length = s.pipe.length - s.executes.length + s.accepts.length := by
  simp [after_of_not_rst hrst]

end Willing

/-- `m` requests of `PIPE` and the response that waits are delivered over edges of which `m + 1` have execution due: each such
edge but the last brings one more response into `RSP`, and every edge takes what is there. -/
theorem watch_delivers_owed {es later : List Edge} {s t : State} {v v' : HostView} {m : Nat}
    (hedges : s.edges = es ++ later) (hwilling : ∀ e ∈ es, e.rst = false ∧ e.rspReady = true)
    (hm : m ≤ s.pipe.length) (hdue : m + 1 ≤ es.countP Edge.elapsed) (hwatch : watch es.length s v = some (t, v')) :
    v.delivered.length + s.waiting.length + m ≤ v'.delivered.length := by
  induction es generalizing s v m with
  | nil => simp at hdue
  | cons e es ih =>
    obtain ⟨⟨hrst, hready⟩, hwilling⟩ := List.forall_mem_cons.mp hwilling
    have hnext : s.nextEdge = e := nextEdge_of_edges hedges
    rw [← hnext] at hrst hready
    rw [List.length_cons, watch_succ] at hwatch
    have hafter := after_edges_of_edges hedges
    have hpipe := length_after_pipe hrst
    have hwaiting : s.after.waiting.length = s.executes.length := by
      rw [after_waiting_of_ready hrst hready, List.length_map]
    have htaken : (v.observe s).delivered.length = v.delivered.length + s.waiting.length := by
      rw [observe_delivered_of_ready hrst hready, List.length_append]
    rw [List.countP_cons] at hdue
    cases helapsed : e.elapsed with
    | false =>
      have hexecutes : s.executes.length = 0 := by simp [State.executes, hnext, helapsed]
      have := ih (m := m) hafter hwilling (by omega) (by simpa [helapsed] using hdue) hwatch
      omega
    | true =>
      have hexecutes := length_executes_of_ready hready (hnext ▸ helapsed)
      cases m with
      | zero =>
        obtain ⟨new, hgrows, -⟩ := watch_grows hafter (fun e he => (hwilling e he).1) hwatch
        have := hgrows.delivered.length_le
        omega
      | succ m =>
        have := ih (m := m) hafter hwilling (by omega) (by simpa [helapsed] using hdue) hwatch
        omega

/-- Settles O52, by `watch_grows` and the count of `watch_delivers_owed`. -/
theorem willingHostDrainsThePipe : Obligations.WillingHostDrainsThePipe := by
  intro s v es later hedges hwilling hdue
  obtain ⟨t, v', hwatch⟩ := watch_goes_on es.length s v
  obtain ⟨new, hgrows, hnone⟩ := watch_grows hedges (fun e he => (hwilling e he).1) hwatch
  have hcount : (v.responses s).length ≤ v'.delivered.length := by
    rw [length_responses]
    exact watch_delivers_owed hedges hwilling le_rfl hdue hwatch
  have howed : v.responses s <+: v'.delivered :=
    List.prefix_of_prefix_length_le hgrows.responses_isPrefix (delivered_isPrefix_responses v' t) hcount
  refine ⟨t, v', hwatch, howed, fun horder => ?_, fun hquiet => ?_⟩
  · rwa [inOrder_iff.mp horder]
  · have hnew : new = [] := hnone hquiet
    have hall : v'.responses t = v.responses s := by rw [hgrows.responses, hnew, List.map_nil, List.append_nil]
    have hdone : t.Done := done_of_length_responses_le (hall ▸ hcount)
    refine ⟨hdone, ?_, ?_⟩
    · rw [hgrows.accepted, hnew, List.append_nil]
    · rw [← hdone.responses, hall, HostView.responses]

end Sys2Proof.Machine

/-! ### Timing and data (spec/10_state.md R24; spec/70_reset_and_hazards.md R151, R153; log 3)

How many requests an edge accepts and executes, and how many responses it delivers, depends on the state only through
what `State.SameTiming` compares. -/

namespace Sys2Proof.Machine

theorem after_valid {s : State} (h : s.nextEdge.rst = false) :
    s.after.rsp.valid = (s.kept.valid || decide (s.executes.length = 1)) := by
  obtain hexecutes | ⟨q, hexecutes⟩ := executes_eq_nil_or_singleton s
  · simp [after_of_not_rst h, hexecutes]
  · simp [after_of_not_rst h, hexecutes, (responseTo_isResult q).valid]

namespace State.SameTiming

variable {s s' : State}

theorem nextEdge_control (h : s.SameTiming s') : s.nextEdge.control = s'.nextEdge.control := by
  have hhead (t : State) : t.nextEdge.control = (t.edges.map Edge.control).headD Edge.quiet.control := by
    cases hedges : t.edges <;> simp [State.nextEdge, hedges]
  rw [hhead, hhead, h.edges]

theorem control_bits (h : s.SameTiming s') :
    s.nextEdge.rst = s'.nextEdge.rst ∧ s.nextEdge.reqValid = s'.nextEdge.reqValid ∧
      s.nextEdge.rspReady = s'.nextEdge.rspReady ∧ s.nextEdge.elapsed = s'.nextEdge.elapsed := by
  simpa [Edge.control] using h.nextEdge_control

theorem reqReady (h : s.SameTiming s') : s.reqReady = s'.reqReady := by
  simp [State.reqReady, h.pipe, h.depth]

theorem kept_valid (h : s.SameTiming s') : s.kept.valid = s'.kept.valid := by
  obtain ⟨-, -, hready, -⟩ := h.control_bits
  rw [Machine.kept_valid, Machine.kept_valid, h.valid, hready]

theorem length_executes (h : s.SameTiming s') : s.executes.length = s'.executes.length := by
  obtain ⟨-, -, -, helapsed⟩ := h.control_bits
  simp only [State.executes, helapsed, h.kept_valid]
  split
  · simp [h.pipe]
  · rfl

theorem length_accepts (h : s.SameTiming s') : s.accepts.length = s'.accepts.length := by
  obtain ⟨-, hvalid, -, -⟩ := h.control_bits
  simp only [State.accepts, hvalid, h.reqReady]
  split <;> rfl

theorem length_delivers (h : s.SameTiming s') : s.delivers.length = s'.delivers.length := by
  obtain ⟨-, -, hready, -⟩ := h.control_bits
  simp only [State.delivers, hready, h.valid]
  split <;> rfl

theorem after (h : s.SameTiming s') : s.after.SameTiming s'.after := by
  have hdepth : s.after.depth = s'.after.depth := by simp [h.depth]
  have hedges : s.after.edges.map Edge.control = s'.after.edges.map Edge.control := by
    simp [List.map_tail, h.edges]
  obtain ⟨hrst, -, -, -⟩ := h.control_bits
  cases hrst' : s'.nextEdge.rst with
  | true =>
    rw [hrst'] at hrst
    exact ⟨by simp [after_of_rst, hrst, hrst'], by simp [after_of_rst, hrst, hrst'], hdepth, hedges⟩
  | false =>
    rw [hrst'] at hrst
    refine ⟨?_, ?_, hdepth, hedges⟩
    · rw [length_after_pipe hrst, length_after_pipe hrst', h.pipe, h.length_executes, h.length_accepts]
    · rw [after_valid hrst, after_valid hrst', h.kept_valid, h.length_executes]

/-- The same transfers: the host's counts stay equal (R31, R33, R141). -/
theorem observe_lengths (h : s.SameTiming s') {v v' : HostView} (haccepted : v.accepted.length = v'.accepted.length)
    (hdelivered : v.delivered.length = v'.delivered.length) :
    (v.observe s).accepted.length = (v'.observe s').accepted.length ∧
      (v.observe s).delivered.length = (v'.observe s').delivered.length := by
  obtain ⟨hrst, -, -, -⟩ := h.control_bits
  cases hrst' : s'.nextEdge.rst with
  | true =>
    rw [observe_of_rst (hrst.trans hrst'), observe_of_rst hrst']
    exact ⟨rfl, rfl⟩
  | false =>
    rw [observe_of_not_rst (hrst.trans hrst'), observe_of_not_rst hrst']
    simp [haccepted, hdelivered, h.length_accepts, h.length_delivers]

end State.SameTiming

/-- Settles O60. -/
theorem everyStepKeepsTheSameTiming : Obligations.EveryStepKeepsTheSameTiming := fun s s' h =>
  ⟨s.after, s'.after, step_eq s, step_eq s', h.after, fun _ _ => h.observe_lengths⟩

theorem run_succ (n : Nat) (s : State) : run (n + 1) s = run n s.after := by
  simp [run, step_eq]

/-- Settles O54, by induction on the number of steps. -/
theorem timingDoesNotDependOnData : Obligations.TimingDoesNotDependOnData := by
  intro n
  induction n with
  | zero => exact fun s s' h => ⟨s, s', rfl, rfl, h, h.reqReady, h.valid⟩
  | succ n ih => exact fun s s' h => run_succ n s ▸ run_succ n s' ▸ ih s.after s'.after h.after

end Sys2Proof.Machine

/-! ### The operand bus (spec/20_memory.md R41, R42; spec/30_encoding.md R58 to R62, R67)

Every command word is that of some instruction, so what the bus carries after decoding and encoding is said once per
instruction, in `operandBus_decode_commandWord`. With the round trip the other way, a decoded request depends on its bus
only through the bits that come back. -/

namespace Sys2Proof.Machine

/-- Cutting an operand out of a bus and zero-extending it keeps the used bits and clears the others. -/
theorem setWidth_operand (n : Nat) (d : Data) :
    (operand n d).setWidth 256 = BitVec.ofNat 256 (d.toNat % 2 ^ n) := by
  apply BitVec.eq_of_toNat_eq
  rw [BitVec.toNat_setWidth, operand_toNat, BitVec.toNat_ofNat]

/-- `N = 8 << sz` bits for a command, and none for a reserved word (R42, R58). -/
theorem usedBits_eq : ∀ c : Command, usedBits c = if c ∈ reservedWords then 0 else 8 * 2 ^ (c.toNat % 8) := by
  decide

theorem usedBits_of_reserved {c : Command} (h : c ∈ reservedWords) : usedBits c = 0 := by
  rw [usedBits_eq, if_pos h]

/-- Where no bit is used, zeros are what is left of any bus. -/
theorem zero_eq_clean_of_reserved {c : Command} (h : c ∈ reservedWords) (d : Data) :
    (0 : Data) = BitVec.ofNat 256 (d.toNat % 2 ^ usedBits c) := by
  rw [usedBits_of_reserved h, Nat.pow_zero, Nat.mod_one]
  rfl

/-! #### Encoding a decoded request -/

theorem commandWord_decode_data (c : Command) (d d' : Data) :
    commandWord (decode ⟨c, d⟩) = commandWord (decode ⟨c, d'⟩) := by
  unfold decode
  dsimp only
  split <;> rfl

/-- Decoding keeps the command word, the open bits of a reserved row included (R61, R62). -/
theorem commandWord_decode (c : Command) (d : Data) : commandWord (decode ⟨c, d⟩) = c := by
  rw [commandWord_decode_data c d 0]
  revert c
  decide

/-- The bus of a command is cut at its width and zero-extended; a 256-bit command takes all of it, a reserved row none. -/
theorem operandBus_decode_commandWord (i : Instr) (d : Data) :
    operandBus (decode ⟨commandWord i, d⟩) = BitVec.ofNat 256 (d.toNat % 2 ^ usedBits (commandWord i)) := by
  cases i with
  | premulRgba256 | hexRgba256 => simpa [commandWord, operandBus, usedBits] using setWidth_operand 256 d
  | reserved04 x | reserved0E x | reserved14 x | reserved1E x =>
    simp only [commandWord, operandBus, decode_reserved04, decode_reserved0E, decode_reserved14, decode_reserved1E]
    exact zero_eq_clean_of_reserved (by revert x; decide) d
  | _ => simp [commandWord, operandBus, usedBits, setWidth_operand]

theorem operandBus_decode (c : Command) (d : Data) :
    operandBus (decode ⟨c, d⟩) = BitVec.ofNat 256 (d.toNat % 2 ^ usedBits c) := by
  simpa [commandWord_decode] using operandBus_decode_commandWord (decode ⟨c, d⟩) d

theorem encode_decode (c : Command) (d : Data) :
    encode (decode ⟨c, d⟩) = ⟨c, BitVec.ofNat 256 (d.toNat % 2 ^ usedBits c)⟩ := by
  rw [encode, commandWord_decode, operandBus_decode]

/-- Settles O3, by `encode_decode` and `usedBits_eq`. -/
theorem encodeOfDecodeClearsOnlyIgnoredBits : Obligations.EncodeOfDecodeClearsOnlyIgnoredBits := fun c d =>
  ⟨encode_decode c d, usedBits_eq c⟩

/-! #### Decoding depends on the used bits only -/

open Sys2Proof.Laws in
theorem decode_encode (i : Instr) : decode (encode i) = i := by
  cases i with
  | premulGray8 v => exact RoundTrip.premulGray8 v
  | premulGray16 v => exact RoundTrip.premulGray16 v
  | premulGray32 v => exact RoundTrip.premulGray32 v
  | premulGray64 v => exact RoundTrip.premulGray64 v
  | premulRgba8 opd => exact RoundTrip.premulRgba8 opd
  | premulRgba16 opd => exact RoundTrip.premulRgba16 opd
  | premulRgba32 opd => exact RoundTrip.premulRgba32 opd
  | premulRgba64 opd => exact RoundTrip.premulRgba64 opd
  | premulRgba128 opd => exact RoundTrip.premulRgba128 opd
  | premulRgba256 opd => exact RoundTrip.premulRgba256 opd
  | hexGray8 v => exact RoundTrip.hexGray8 v
  | hexGray16 v => exact RoundTrip.hexGray16 v
  | hexGray32 v => exact RoundTrip.hexGray32 v
  | hexGray64 v => exact RoundTrip.hexGray64 v
  | hexRgba8 opd => exact RoundTrip.hexRgba8 opd
  | hexRgba16 opd => exact RoundTrip.hexRgba16 opd
  | hexRgba32 opd => exact RoundTrip.hexRgba32 opd
  | hexRgba64 opd => exact RoundTrip.hexRgba64 opd
  | hexRgba128 opd => exact RoundTrip.hexRgba128 opd
  | hexRgba256 opd => exact RoundTrip.hexRgba256 opd
  | reserved04 x => exact RoundTrip.reserved04 x
  | reserved0E x => exact RoundTrip.reserved0E x
  | reserved14 x => exact RoundTrip.reserved14 x
  | reserved1E x => exact RoundTrip.reserved1E x

theorem decode_eq_of_used_bits_eq {c : Command} {d d' : Data}
    (h : d.toNat % 2 ^ usedBits c = d'.toNat % 2 ^ usedBits c) : decode ⟨c, d⟩ = decode ⟨c, d'⟩ := by
  calc decode ⟨c, d⟩
    _ = decode (encode (decode ⟨c, d⟩)) := (decode_encode _).symm
    _ = decode (encode (decode ⟨c, d'⟩)) := by rw [encode_decode, encode_decode, h]
    _ = decode ⟨c, d'⟩ := decode_encode _

/-- Settles O4: the two requests decode to one instruction, and that goes on in every state. -/
theorem unusedOperandBitsDoNotMatter : Obligations.UnusedOperandBitsDoNotMatter := by
  intro c d d' h s
  rw [← usedBits_eq] at h
  exact ⟨_, exec_decode ⟨c, d⟩ s, decode_eq_of_used_bits_eq h ▸ exec_decode ⟨c, d⟩ s⟩

end Sys2Proof.Machine

/-! ### Records of the assembler (spec/20_memory.md R44; spec/30_encoding.md R67; spec/41_color_converter_rgba.md R86) -/

namespace Sys2Proof.Machine

/-- The number that four fields of `k` bits form in the order R, G, B, A (R44). -/
def recordNumber (k r g b a : Nat) : Nat := ((r * 2 ^ k + g) * 2 ^ k + b) * 2 ^ k + a

theorem asmData_record (v : Variant) (r g b a : Nat) :
    asmData v (.record r g b a) = BitVec.ofNat 256 (recordNumber v.channelWidth r g b a) := rfl

section Fields

variable {k r g b a : Nat}

/-- Taking the last field off a number. -/
theorem div_append_field (x : Nat) (ha : a < 2 ^ k) : (x * 2 ^ k + a) / 2 ^ k = x := by
  rw [Nat.mul_comm, Nat.mul_add_div (Nat.two_pow_pos k), Nat.div_eq_of_lt ha, Nat.add_zero]

/-- Putting a field at the end of a number. -/
theorem append_field_lt {m x : Nat} (hx : x < 2 ^ m) (ha : a < 2 ^ k) : x * 2 ^ k + a < 2 ^ (m + k) := by
  rw [Nat.pow_add, Nat.mul_comm x]
  exact Nat.mul_add_lt_mul_of_lt_of_lt hx ha

theorem recordNumber_lt (hr : r < 2 ^ k) (hg : g < 2 ^ k) (hb : b < 2 ^ k) (ha : a < 2 ^ k) :
    recordNumber k r g b a < 2 ^ (4 * k) := by
  have h := append_field_lt (append_field_lt (append_field_lt hr hg) hb) ha
  rwa [show k + k + k + k = 4 * k by omega] at h

/-- Each field stands where S1 looks for it (R44, R86). -/
theorem recordNumber_fields (hr : r < 2 ^ k) (hg : g < 2 ^ k) (hb : b < 2 ^ k) (ha : a < 2 ^ k) :
    recordNumber k r g b a / 2 ^ (3 * k) % 2 ^ k = r ∧
    recordNumber k r g b a / 2 ^ (2 * k) % 2 ^ k = g ∧
    recordNumber k r g b a / 2 ^ k % 2 ^ k = b ∧
    recordNumber k r g b a % 2 ^ k = a := by
  have hb' : recordNumber k r g b a / 2 ^ k = (r * 2 ^ k + g) * 2 ^ k + b := div_append_field _ ha
  have hg' : recordNumber k r g b a / 2 ^ (2 * k) = r * 2 ^ k + g := by
    rw [Nat.two_mul, Nat.pow_add, ← Nat.div_div_eq_div_mul, hb', div_append_field _ hb]
  have hr' : recordNumber k r g b a / 2 ^ (3 * k) = r := by
    rw [Nat.succ_mul, Nat.pow_add, ← Nat.div_div_eq_div_mul, hg', div_append_field _ hg]
  rw [hr', hg', hb']
  exact ⟨Nat.mod_eq_of_lt hr, Nat.mul_add_mod_of_lt hg, Nat.mul_add_mod_of_lt hb, Nat.mul_add_mod_of_lt ha⟩

end Fields

/-- The four channels of an RGBA variant fill its operand, which fits the bus (R6). -/
theorem rgba_width : ∀ v : Variant, v.isRgba = true → v.width = 4 * v.channelWidth ∧ v.width ≤ 256 := by
  intro v
  cases v <;> decide

/-- Settles O56. -/
theorem recordFieldsReachTheirChannels : Obligations.RecordFieldsReachTheirChannels := by
  intro v r g b a hwf k c
  simp only [AsmOperand.wellFormed, Bool.and_eq_true, decide_eq_true_eq] at hwf
  obtain ⟨⟨⟨⟨hrgba, hr⟩, hg⟩, hb⟩, ha⟩ := hwf
  obtain ⟨hwidth, hbus⟩ := rgba_width v hrgba
  have hlt : recordNumber k r g b a < 2 ^ v.width := hwidth ▸ recordNumber_lt hr hg hb ha
  have hdata : (asmData v (.record r g b a)).toNat = recordNumber k r g b a := by
    rw [asmData_record, BitVec.toNat_ofNat]
    exact Nat.mod_eq_of_lt (hlt.trans_le (Nat.pow_le_pow_right (by decide) hbus))
  obtain ⟨hcr, hcg, hcb, hca⟩ := extractChannels_toNat k (asmData v (.record r g b a))
  obtain ⟨hnr, hng, hnb, hna⟩ := recordNumber_fields hr hg hb ha
  rw [hdata] at hcr hcg hcb hca
  exact ⟨hcr.trans hnr, hcg.trans hng, hcb.trans hnb, hca.trans hna,
    recordNumber k r g b a, rfl, decide_eq_true hlt, rfl⟩

end Sys2Proof.Machine

/-! ### The opcode map (spec/30_encoding.md R55 to R62, R65; spec/60_exceptions.md R126, R127) -/

namespace Sys2Proof.Machine

/-- Settles O2, by the round trip of each instruction. -/
theorem decodeOfEncodeIsTheInstruction : Obligations.DecodeOfEncodeIsTheInstruction := decode_encode

/-- Settles O1: each word has its row's lemma, and 0x9B is its own low bits at each of the widths. -/
theorem commandWordsDecodeByTheOpcodeMap : Obligations.CommandWordsDecodeByTheOpcodeMap :=
  ⟨decode_premulGray8 0x9B, decode_premulGray64 0x9B, decode_premulRgba32 0x9B, decode_hexGray16 0x9B,
    decode_hexRgba8 0x9B, decode_hexRgba256 0x9B, decode_reserved0E 0x9B 1⟩

/-! #### Reserved words -/

/-- The error response of the model, `errorResult`, has the fields that the statements write out (R127). -/
theorem exec_of_isReserved {i : Instr} (h : isReserved i = true) (s : State) :
    exec i s = .next { s with rsp := illegalCommandResponse } := by
  cases i with
  | reserved04 x => exact exec_reserved04 s x
  | reserved0E x => exact exec_reserved0E s x
  | reserved14 x => exact exec_reserved14 s x
  | reserved1E x => exact exec_reserved1E s x
  | _ => simp [isReserved] at h

/-- Where `T_execute` is enabled it runs the oldest request on the state without it (R32). -/
theorem tExecute_of_enabled {s : State} {q : Request} {rest : List Request} (hfree : s.rsp.valid = false)
    (hpipe : s.pipe = q :: rest) : tExecute s = exec (decode q) { s with pipe := rest } := by
  simp [tExecute, hfree, fetch_cons hpipe]

/-- Settles O25, by `exec_of_isReserved`; `isReserved_decode` ties the reserved rows to the twelve words. -/
theorem reservedWordsGiveTheErrorResponse : Obligations.ReservedWordsGiveTheErrorResponse := by
  refine ⟨fun c hc d s => ?_, fun x s => ⟨exec_of_isReserved rfl s, exec_of_isReserved rfl s⟩,
    fun x s => ⟨exec_of_isReserved rfl s, exec_of_isReserved rfl s⟩⟩
  have hreserved : isReserved (decode ⟨c, d⟩) = true := by rw [isReserved_decode, decide_eq_true hc]
  refine ⟨exec_of_isReserved hreserved s, fun rest hfree hpipe => ?_⟩
  rw [tExecute_of_enabled hfree hpipe, exec_of_isReserved hreserved]

/-! #### Legal words -/

/-- What the response to a legal command shows of the command's bit `op` (R55, R56, R65). -/
def Response.ShowsOperation (p : Response) (op : Bool) : Prop :=
  p.err = false ∧
    if op then 2 ≤ p.len.toNat ∧ p.len.toNat ≤ 64 ∧ p.Colourless
    else p.len = 0 ∧ p.hex = 0

theorem premulResult_showsOperation (q : Channels 16) : (premulResult q).ShowsOperation false := ⟨rfl, rfl, rfl⟩

theorem hexResult_showsOperation {s : List Byte} (hmin : 2 ≤ s.length) (hmax : s.length ≤ 64) :
    (hexResult s).ShowsOperation true := by
  have hlen : (hexResult s).len.toNat = s.length := hexResult_len_toNat hmax
  exact ⟨rfl, hlen ▸ hmin, hlen ▸ hmax, hexResult_colourless s⟩

/-- A grey has a character per 4 bits in each of four fields (R105). -/
theorem grayHex_showsOperation {w : Nat} (hmin : 8 ≤ w) (hmax : w ≤ 64) (v : BitVec w) :
    (hexResult (grayHex v)).ShowsOperation true :=
  hexResult_showsOperation (by rw [length_grayHex]; omega) (by rw [length_grayHex]; omega)

/-- A packed colour has a character per 4 bits (R109). -/
theorem rgbaHex_showsOperation {w : Nat} (hmin : 8 ≤ w) (hmax : w ≤ 256) (opd : BitVec w) :
    (hexResult (rgbaHex opd)).ShowsOperation true :=
  hexResult_showsOperation (by rw [length_rgbaHex]; omega) (by rw [length_rgbaHex]; omega)

/-- The families PREMUL and HEX have bit 4 of their command words 0 and 1 (R55, R61), and answer accordingly. -/
theorem exec_showsOperation {i : Instr} (h : isReserved i = false) (s : State) :
    ∃ t : State, exec i s = .next t ∧ t.rsp.ShowsOperation ((commandWord i).getLsbD 4) := by
  cases i with
  | premulGray8 | premulGray16 | premulGray32 | premulGray64
  | premulRgba8 | premulRgba16 | premulRgba32 | premulRgba64 | premulRgba128 | premulRgba256 =>
    exact ⟨_, rfl, by simpa [commandWord] using premulResult_showsOperation _⟩
  | hexGray8 v | hexGray16 v | hexGray32 v | hexGray64 v =>
    exact ⟨_, rfl, by simpa [commandWord] using grayHex_showsOperation (by decide) (by decide) v⟩
  | hexRgba8 opd | hexRgba16 opd | hexRgba32 opd | hexRgba64 opd | hexRgba128 opd | hexRgba256 opd =>
    exact ⟨_, rfl, by simpa [commandWord] using rgbaHex_showsOperation (by decide) (by decide) opd⟩
  | reserved04 | reserved0E | reserved14 | reserved1E => simp [isReserved] at h

/-- Settles O29, by `exec_showsOperation`: decoding keeps the command word, and a legal word is no reserved row. -/
theorem responseKindShowsTheOperation : Obligations.ResponseKindShowsTheOperation := by
  intro c d s hc
  have hlegal : isReserved (decode ⟨c, d⟩) = false := by rw [isReserved_decode, decide_eq_false hc]
  obtain ⟨t, ht, herr, hkind⟩ := exec_showsOperation hlegal s
  rw [commandWord_decode] at hkind
  exact ⟨t, ht, herr, hkind⟩

end Sys2Proof.Machine

/-! ### The requests of an assembler line (spec/30_encoding.md R55, R61, R67, R68)

A line has one request for each operation that its operation word stands for, so every operation word expands as its list
of operations does. -/

namespace Sys2Proof.Machine

section Expansion

variable (op : AsmOp) (v : Variant) (x : AsmOperand)

theorem assemble_request_congr {op op' : AsmOp} (h : asmOperations op = asmOperations op') :
    assemble (.request op v x) = assemble (.request op' v x) := by
  rw [assemble, assemble, h]

theorem assemble_request_append {op op₁ op₂ : AsmOp} (h : asmOperations op = asmOperations op₁ ++ asmOperations op₂) :
    assemble (.request op v x) = assemble (.request op₁ v x) ++ assemble (.request op₂ v x) := by
  simp only [assemble, h, List.map_append]

theorem assemble_request_cmd :
    (assemble (.request op v x)).map Request.cmd = (asmOperations op).map (asmCommand · v) := by
  simp [assemble, Function.comp_def]

/-- All requests of a line carry the same operand. -/
theorem assemble_request_data :
    (assemble (.request op v x)).map Request.data = (asmOperations op).map fun _ => asmData v x := by
  simp [assemble, Function.comp_def]

end Expansion

/-- Settles O55: `COLOR` stands for the operation of PREMUL and then that of HEX, `toPremultiplied16` and `toHex` for one of
them; the codes are `op ‖ fam ‖ sz` of each variant. -/
theorem colorAndAliasesExpand : Obligations.ColorAndAliasesExpand := by
  refine ⟨fun v x => ⟨assemble_request_append v x rfl, assemble_request_congr v x rfl,
    assemble_request_congr v x rfl, assemble_request_data .color v x⟩, ?_⟩
  simp only [assemble_request_cmd]
  decide

end Sys2Proof.Machine

/-! ### PREMUL on greys (spec/40_color_converter_gray.md R75 to R79)

The four commands share one meaning, `grayPremul`, and differ in the width of the operand only; so each one's rule comes
down to the equation of `scale16` at that width. -/

namespace Sys2Proof.Machine

/-- `CommandDecodes` in the terms of the decoder, whose operand is cut from the bus (R41). -/
theorem commandDecodes_of_operand {n : Nat} {code : Command} {instr : BitVec n → Instr}
    (h : ∀ d : Data, decode ⟨code, d⟩ = instr (operand n d)) : CommandDecodes n code instr := by
  intro d
  rw [h, operand_eq_ofNat]

theorem lane32_eq_ofNat (v : BitVec 16) : lane32 v = BitVec.ofNat 32 v.toNat := (BitVec.ofNat_toNat 32 v).symm

/-- The response of the model to a PREMUL command has the fields that the statements write out (R65). -/
theorem premulResult_eq_quadrupleResponse (q : Channels 16) :
    premulResult q = quadrupleResponse q.r.toNat q.g.toNat q.b.toNat q.a.toNat := by
  simp only [premulResult, quadrupleResponse, lane32_eq_ofNat, errLegal]

theorem premulResult_grayPremul {n : Nat} (v : BitVec n) :
    premulResult (grayPremul v) =
      quadrupleResponse (scale16 v).toNat (scale16 v).toNat (scale16 v).toNat 0xFFFF :=
  premulResult_eq_quadrupleResponse (grayPremul v)

/-- A command whose row in the decoder and whose arm are those of a PREMUL on greys obeys the rule with the intensity that
`scale16` gives (R75). -/
theorem grayPremulRule_of_scale16 {n : Nat} {code : Command} {instr : BitVec n → Instr} {y : Nat → Nat}
    (hdecode : ∀ d : Data, decode ⟨code, d⟩ = instr (operand n d))
    (hexec : ∀ (s : State) (v : BitVec n), exec (instr v) s = .next (s.respond (premulResult (grayPremul v))))
    (hscale : ∀ v : BitVec n, (scale16 v).toNat = y v.toNat) : GrayPremulRule n code instr y := by
  refine ⟨commandDecodes_of_operand hdecode, fun v s => ?_⟩
  rw [hexec, premulResult_grayPremul, hscale, State.respond]

/-- Settles O5: 8 bits are expanded with the multiplier `0x0101`. -/
theorem premulGray8Result : Obligations.PremulGray8Result :=
  grayPremulRule_of_scale16 decode_premulGray8 exec_premulGray8 (scale16_toNat_eq_mul (by decide))

/-- Settles O6: the multiplier of 16 bits is 1. -/
theorem premulGray16Result : Obligations.PremulGray16Result :=
  grayPremulRule_of_scale16 decode_premulGray16 exec_premulGray16 fun v =>
    calc (scale16 v).toNat
      _ = v.toNat * multiplier 16 := scale16_toNat_eq_mul (by decide) v
      _ = v.toNat := Nat.mul_one v.toNat

/-- Settles O7: of 32 bits the top 16 are kept. -/
theorem premulGray32Result : Obligations.PremulGray32Result :=
  grayPremulRule_of_scale16 decode_premulGray32 exec_premulGray32 fun v => scale16_toNat_truncate v (by decide)

/-- Settles O8: of 64 bits the top 16 are kept. -/
theorem premulGray64Result : Obligations.PremulGray64Result :=
  grayPremulRule_of_scale16 decode_premulGray64 exec_premulGray64 fun v => scale16_toNat_truncate v (by decide)

end Sys2Proof.Machine

/-! ### The premultiplication of one channel (spec/41_color_converter_rgba.md R88, R89, R92, R100)

Everything here follows from one equation, `premul16_toNat`: the result is the floor of the exact product over `0xFFFF`.
What holds of the channel holds of alpha by symmetry. -/

namespace Sys2Proof.Machine

theorem premul16_comm (c a : BitVec 16) : premul16 c a = premul16 a c := by
  rw [← BitVec.toNat_inj, premul16_toNat, premul16_toNat, Nat.mul_comm]

theorem premul16_mono_alpha (c : BitVec 16) {a a' : BitVec 16} (h : a ≤ a') : premul16 c a ≤ premul16 c a' := by
  rw [BitVec.le_def, premul16_toNat, premul16_toNat]
  exact Nat.div_le_div_right (Nat.mul_le_mul_left _ h)

theorem premul16_mono_channel {c c' : BitVec 16} (h : c ≤ c') (a : BitVec 16) : premul16 c a ≤ premul16 c' a := by
  rw [premul16_comm c, premul16_comm c']
  exact premul16_mono_alpha a h

theorem premul16_transparent (c : BitVec 16) : premul16 c 0 = 0 := by
  rw [← BitVec.toNat_inj, premul16_toNat]
  simp

theorem premul16_opaque (c : BitVec 16) : premul16 c 0xFFFF = c := by
  rw [← BitVec.toNat_inj, premul16_toNat]
  exact Nat.mul_div_cancel _ (by decide)

theorem premul16_full_channel (a : BitVec 16) : premul16 0xFFFF a = a := by
  rw [premul16_comm, premul16_opaque]

/-- Settles O31. -/
theorem premultiplicationProperties : Obligations.PremultiplicationProperties := fun c _ a _ =>
  ⟨premul16_le_alpha c a, premul16_transparent c, premul16_opaque c, premul16_mono_alpha c,
    fun h => premul16_mono_channel h a, premul16_comm c a, (premul16_comm 0 a).trans (premul16_transparent a),
    premul16_full_channel a⟩

/-- Settles O32: the multiplier of the expanded alpha is a common factor of the product and of `0xFFFF`, and cancels. -/
theorem nativeMaxFormIsTheSameFunction : Obligations.NativeMaxFormIsTheSameFunction := by
  intro k hk c a
  calc (premul16 (scale16 c) (scale16 a)).toNat
    _ = (scale16 c).toNat * (a.toNat * multiplier k) / ((2 ^ k - 1) * multiplier k) := by
      rw [premul16_toNat, scale16_toNat_eq_mul hk a, full_mul_multiplier hk]
    _ = (scale16 c).toNat * a.toNat / (2 ^ k - 1) := by
      rw [← Nat.mul_assoc, Nat.mul_div_mul_right _ _ (multiplier_pos hk)]

/-! #### Division by shifts (R100) -/

/-- The product of two 16-bit values is exact at 32 bits, with room for one more (R93). -/
theorem toNat_product (c a : BitVec 16) :
    (c.setWidth 32 * a.setWidth 32).toNat = c.toNat * a.toNat ∧ c.toNat * a.toNat ≤ 0xFFFF * 0xFFFF := by
  have hle : c.toNat * a.toNat ≤ 0xFFFF * 0xFFFF :=
    Nat.mul_le_mul (Nat.le_of_lt_succ c.isLt) (Nat.le_of_lt_succ a.isLt)
  have hc : (c.setWidth 32).toNat = c.toNat := BitVec.toNat_setWidth_of_le (by decide)
  have ha : (a.setWidth 32).toNat = a.toNat := BitVec.toNat_setWidth_of_le (by decide)
  refine ⟨?_, hle⟩
  rw [BitVec.toNat_mul, hc, ha, Nat.mod_eq_of_lt (by omega)]

/-- With `x = 0xFFFF * q + t`, the number `x + 1` lies in the `q`-th block of `2 ^ 16` or in the one before, as `t + 1`
reaches `q` or not; adding the block's number brings it to the `q`-th in both cases. -/
theorem div_full_eq_shifts {x : Nat} (hx : x ≤ 0xFFFF * 0xFFFF) :
    x / 0xFFFF = (x + 1 + (x + 1) / 2 ^ 16) / 2 ^ 16 := by
  obtain ⟨q, t, hq, ht, hxqt⟩ : ∃ q t, x / 0xFFFF = q ∧ t < 0xFFFF ∧ x = 0xFFFF * q + t :=
    ⟨_, _, rfl, Nat.mod_lt x (by decide), (Nat.div_add_mod x 0xFFFF).symm⟩
  rw [hq]
  rcases Nat.lt_or_ge (t + 1) q with hshort | hreach
  · have hblock : (x + 1) / 2 ^ 16 = q - 1 := by omega
    omega
  · have hblock : (x + 1) / 2 ^ 16 = q := by omega
    omega

/-- The shift-and-add of R100 on any 32-bit `y` whose sum fits. -/
theorem toNat_shift_add_shift {y : BitVec 32} (hfits : y.toNat + y.toNat / 2 ^ 16 < 2 ^ 32) :
    ((y + y >>> 16) >>> 16).toNat = (y.toNat + y.toNat / 2 ^ 16) / 2 ^ 16 := by
  have hblock : (y >>> 16).toNat = y.toNat / 2 ^ 16 := by
    rw [BitVec.toNat_ushiftRight, Nat.shiftRight_eq_div_pow]
  have hsum : (y + y >>> 16).toNat = y.toNat + y.toNat / 2 ^ 16 := by
    rw [BitVec.toNat_add, hblock, Nat.mod_eq_of_lt hfits]
  rw [BitVec.toNat_ushiftRight, hsum, Nat.shiftRight_eq_div_pow]

/-- Settles O33: no sum is cut off at 32 bits, so the identity is the one on natural numbers. -/
theorem divisionByShiftsIsTheSameFunction : Obligations.DivisionByShiftsIsTheSameFunction := by
  intro c a x
  obtain ⟨hx, hle⟩ : x.toNat = c.toNat * a.toNat ∧ c.toNat * a.toNat ≤ 0xFFFF * 0xFFFF := toNat_product c a
  have hsucc : (x + 1).toNat = c.toNat * a.toNat + 1 := by
    rw [← hx]
    exact BitVec.toNat_add_of_lt (show x.toNat + 1 < 2 ^ 32 by omega)
  apply BitVec.eq_of_toNat_eq
  calc ((premul16 c a).setWidth 32).toNat
    _ = c.toNat * a.toNat / 0xFFFF := by rw [BitVec.toNat_setWidth_of_le (by decide), premul16_toNat]
    _ = ((x + 1).toNat + (x + 1).toNat / 2 ^ 16) / 2 ^ 16 := by rw [div_full_eq_shifts hle, hsucc]
    _ = _ := (toNat_shift_add_shift (y := x + 1) (by rw [hsucc]; omega)).symm

/-! #### Two-bit channels (R101) -/

/-- Settles O34: the sixteen entries are evaluated; a row ends at the full channel and rises with the channel as R92 says. -/
theorem twoBitChannelTable : Obligations.TwoBitChannelTable := by
  refine ⟨by decide, fun alpha => ⟨?_, ?_, fun c c' h => ?_⟩⟩
  · revert alpha
    decide
  · have hfull : scale16 (3#2) = 0xFFFF := scale16_full (.inl (by decide))
    rw [hfull, premul16_full_channel]
  · exact premul16_mono_channel (scale16_mono (.inl (by decide)) h) (scale16 alpha)

end Sys2Proof.Machine

/-! ### PREMUL on RGBA colours (spec/41_color_converter_rgba.md R85 to R88, R94 to R99)

The six commands share one meaning, `rgbaPremul`, and differ in the width of a channel only; so each one's rule comes down
to the equation of `scale16` at that width. -/

namespace Sys2Proof.Machine

/-- The three stages in exact natural numbers: the fields of S1, the scaling of S2, the floors of S3 (R85). -/
theorem premulResult_rgbaPremul {n k : Nat} {scale : Nat → Nat}
    (hscale : ∀ v : BitVec k, (scale16 v).toNat = scale v.toNat) (opd : BitVec n) :
    premulResult (rgbaPremul k opd) =
      quadrupleResponse
        (scale (opd.toNat / 2 ^ (3 * k) % 2 ^ k) * scale (opd.toNat % 2 ^ k) / 0xFFFF)
        (scale (opd.toNat / 2 ^ (2 * k) % 2 ^ k) * scale (opd.toNat % 2 ^ k) / 0xFFFF)
        (scale (opd.toNat / 2 ^ k % 2 ^ k) * scale (opd.toNat % 2 ^ k) / 0xFFFF)
        (scale (opd.toNat % 2 ^ k)) := by
  obtain ⟨hred, hgreen, hblue, halpha⟩ := extractChannels_toNat k opd
  simp only [premulResult_eq_quadrupleResponse, rgbaPremul, premultiply, scaleChannels, premul16_toNat, hscale, hred,
    hgreen, hblue, halpha]

/-- A command whose row in the decoder and whose arm are those of a PREMUL on RGBA colours with channels of `k` bits obeys
the rule with the scaling that `scale16` gives at that width. -/
theorem rgbaPremulRule_of_scale16 {n k : Nat} {code : Command} {instr : BitVec n → Instr} {scale : Nat → Nat}
    (hdecode : ∀ d : Data, decode ⟨code, d⟩ = instr (operand n d))
    (hexec : ∀ (s : State) (opd : BitVec n),
      exec (instr opd) s = .next (s.respond (premulResult (rgbaPremul k opd))))
    (hscale : ∀ v : BitVec k, (scale16 v).toNat = scale v.toNat) : RgbaPremulRule n k code instr scale := by
  refine ⟨commandDecodes_of_operand hdecode, fun opd s => ?_⟩
  rw [hexec, premulResult_rgbaPremul hscale, State.respond]

/-- Settles O9: 2 bits are expanded with the multiplier `0x5555`. -/
theorem premulRgba8Result : Obligations.PremulRgba8Result :=
  rgbaPremulRule_of_scale16 decode_premulRgba8 exec_premulRgba8 (scale16_toNat_eq_mul (by decide))

/-- Settles O10: 4 bits are expanded with the multiplier `0x1111`. -/
theorem premulRgba16Result : Obligations.PremulRgba16Result :=
  rgbaPremulRule_of_scale16 decode_premulRgba16 exec_premulRgba16 (scale16_toNat_eq_mul (by decide))

/-- Settles O11: 8 bits are expanded with the multiplier `0x0101`. -/
theorem premulRgba32Result : Obligations.PremulRgba32Result :=
  rgbaPremulRule_of_scale16 decode_premulRgba32 exec_premulRgba32 (scale16_toNat_eq_mul (by decide))

/-- Settles O12: the multiplier of 16 bits is 1. -/
theorem premulRgba64Result : Obligations.PremulRgba64Result :=
  rgbaPremulRule_of_scale16 decode_premulRgba64 exec_premulRgba64 fun v =>
    (scale16_toNat_eq_mul (by decide) v).trans (Nat.mul_one v.toNat)

/-- Settles O13: of 32 bits the top 16 are kept. -/
theorem premulRgba128Result : Obligations.PremulRgba128Result :=
  rgbaPremulRule_of_scale16 decode_premulRgba128 exec_premulRgba128 fun v => scale16_toNat_truncate v (by decide)

/-- Settles O14: of 64 bits the top 16 are kept. -/
theorem premulRgba256Result : Obligations.PremulRgba256Result :=
  rgbaPremulRule_of_scale16 decode_premulRgba256 exec_premulRgba256 fun v => scale16_toNat_truncate v (by decide)

end Sys2Proof.Machine

/-! ### Hexadecimal text (spec/20_memory.md R47, R48; spec/42_hex_encoder.md R105 to R109, R120)

The digits of a number are those of its sixteenth and then its last one (`hexDigitsOf_succ`). By induction over this, the
text of a concatenation is the two texts in order and a text reads back as its number; so no two operands share a text. -/

namespace Sys2Proof.Machine

/-! #### The digits of a number -/

@[simp] theorem hexDigitsOf_zero (v : Nat) : hexDigitsOf 0 v = [] := rfl

theorem hexDigitsOf_succ (m v : Nat) :
    hexDigitsOf (4 * (m + 1)) v = hexDigitsOf (4 * m) (v / 16) ++ [hexAlphabet.getD (v % 16) 0] := by
  have hfront : ∀ j < m, v / 16 ^ (m - j) = v / 16 / 16 ^ (m - 1 - j) := by
    intro j hj
    rw [Nat.div_div_eq_div_mul, ← Nat.pow_add_one', show m - 1 - j + 1 = m - j by omega]
  simp +contextual [hexDigitsOf, List.range_succ, hfront]

/-- The text of `x ‖ y` where `y` has `b` digits (R107). -/
theorem hexDigitsOf_append (a b x : Nat) {y : Nat} (hy : y < 16 ^ b) :
    hexDigitsOf (4 * (a + b)) (x * 16 ^ b + y) = hexDigitsOf (4 * a) x ++ hexDigitsOf (4 * b) y := by
  induction b generalizing y with
  | zero =>
    obtain rfl : y = 0 := by simpa using hy
    simp
  | succ b ih =>
    have hshift : x * 16 ^ (b + 1) = 16 * (x * 16 ^ b) := by ring
    have hdiv : (x * 16 ^ (b + 1) + y) / 16 = x * 16 ^ b + y / 16 := by omega
    have hmod : (x * 16 ^ (b + 1) + y) % 16 = y % 16 := by omega
    rw [← Nat.add_assoc, hexDigitsOf_succ, hexDigitsOf_succ, hdiv, hmod, ih (by omega), List.append_assoc]

theorem readHexText_append_singleton (s : List Byte) (c : Byte) :
    readHexText (s ++ [c]) = 16 * readHexText s + hexAlphabet.idxOf c := by
  simp [readHexText]

/-- The sixteen character codes are distinct (R106), so a digit's code shows its value. -/
theorem idxOf_hexAlphabet_getD : ∀ d < 16, hexAlphabet.idxOf (hexAlphabet.getD d 0) = d := by decide

theorem readHexText_hexDigitsOf (m v : Nat) : readHexText (hexDigitsOf (4 * m) v) = v % 16 ^ m := by
  induction m generalizing v with
  | zero => simp [readHexText, Nat.mod_one]
  | succ m ih =>
    calc readHexText (hexDigitsOf (4 * (m + 1)) v)
      _ = 16 * (v / 16 % 16 ^ m) + v % 16 := by
        rw [hexDigitsOf_succ, readHexText_append_singleton, ih,
          idxOf_hexAlphabet_getD _ (Nat.mod_lt v (by decide))]
      _ = v % 16 ^ (m + 1) := by rw [Nat.pow_succ', Nat.mod_mul, Nat.add_comm]

/-! #### The strings of the model -/

/-- The digit of four bits in the terms of the alphabet (R106, R107). -/
theorem hexDigit_extractLsb' {w : Nat} (v : BitVec w) (i : Nat) :
    hexDigit (v.extractLsb' i 4) = hexAlphabet.getD (v.toNat / 2 ^ i % 16) 0 := by
  rw [hexDigit_eq_alphabet, BitVec.extractLsb'_toNat, Nat.shiftRight_eq_div_pow]

theorem hexStr_getElem? {w : Nat} (v : BitVec w) {j : Nat} (hj : j < w / 4) :
    (hexStr v)[j]? = some (hexAlphabet.getD (v.toNat / 2 ^ (w - 4 - 4 * j) % 16) 0) := by
  rw [hexStr, List.getElem?_map, List.getElem?_range hj, Option.map_some, hexDigit_extractLsb']

/-- `hexstr` shows the digits of the value, four bits to a digit (R107). -/
theorem hexStr_eq_hexDigitsOf {w : Nat} (hw : w % 4 = 0) (v : BitVec w) : hexStr v = hexDigitsOf w v.toNat := by
  refine List.map_congr_left fun j hj => ?_
  have hjw : j < w / 4 := List.mem_range.mp hj
  rw [hexDigit_extractLsb', show w - 4 - 4 * j = 4 * (w / 4 - 1 - j) by omega, Nat.pow_mul]

theorem grayHex_eq_grayText {w : Nat} (hw : w % 4 = 0) (v : BitVec w) : grayHex v = grayText w v.toNat := by
  rw [grayHex, hexStr_eq_hexDigitsOf hw]
  rfl

theorem toNat_append_eq_mul_add {m n : Nat} (x : BitVec m) (y : BitVec n) :
    (x ++ y).toNat = x.toNat * 2 ^ n + y.toNat := by
  rw [BitVec.toNat_append, ← Nat.shiftLeft_add_eq_or_of_lt y.isLt, Nat.shiftLeft_eq]

theorem hexStr_append {w₁ w₂ : Nat} (h₁ : w₁ % 4 = 0) (h₂ : w₂ % 4 = 0) (x : BitVec w₁) (y : BitVec w₂) :
    hexStr (x ++ y) = hexStr x ++ hexStr y := by
  rw [hexStr_eq_hexDigitsOf (by omega), hexStr_eq_hexDigitsOf h₁, hexStr_eq_hexDigitsOf h₂, toNat_append_eq_mul_add]
  obtain ⟨a, rfl⟩ := Nat.dvd_of_mod_eq_zero h₁
  obtain ⟨b, rfl⟩ := Nat.dvd_of_mod_eq_zero h₂
  have hy : y.toNat < 16 ^ b := by simpa [Nat.pow_mul] using y.isLt
  rw [← Nat.mul_add, Nat.pow_mul]
  exact hexDigitsOf_append a b x.toNat hy

theorem readHexText_hexStr {w : Nat} (hw : w % 4 = 0) (v : BitVec w) : readHexText (hexStr v) = v.toNat := by
  rw [hexStr_eq_hexDigitsOf hw]
  obtain ⟨m, rfl⟩ := Nat.dvd_of_mod_eq_zero hw
  have hv : v.toNat < 16 ^ m := by simpa [Nat.pow_mul] using v.isLt
  rw [readHexText_hexDigitsOf, Nat.mod_eq_of_lt hv]

/-- The first quarter of a grey string shows the intensity (R105). -/
theorem grayHex_take {w : Nat} (v : BitVec w) : (grayHex v).take (w / 4) = hexStr v := by
  simp only [grayHex, List.append_assoc]
  exact List.take_left' (length_hexStr v)

/-- Settles O35. -/
theorem hexStringDigitsAndConcatenation : Obligations.HexStringDigitsAndConcatenation :=
  ⟨fun _ v _ => ⟨length_hexStr v, fun _ hj => hexStr_getElem? v hj⟩,
    fun _ _ x y h₁ h₂ => hexStr_append h₁ h₂ x y⟩

/-- Settles O36. -/
theorem hexTextReadsBackAsTheOperand : Obligations.HexTextReadsBackAsTheOperand := fun _ v hw =>
  ⟨readHexText_hexStr hw v, by rw [grayHex_take, readHexText_hexStr hw]⟩

/-! #### Different operands have different responses -/

theorem rgbaHex_injective {w : Nat} (hw : w % 4 = 0) {v v' : BitVec w} (h : rgbaHex v = rgbaHex v') : v = v' := by
  apply BitVec.eq_of_toNat_eq
  rw [← readHexText_hexStr hw v, ← readHexText_hexStr hw v']
  exact congrArg readHexText h

theorem grayHex_injective {w : Nat} (hw : w % 4 = 0) {v v' : BitVec w} (h : grayHex v = grayHex v') : v = v' := by
  have hquarter : hexStr v = hexStr v' := by rw [← grayHex_take v, ← grayHex_take v', h]
  exact rgbaHex_injective hw hquarter

/-- A string that fits the bus stands on its byte lanes whole (R47). -/
theorem lanes_hexResult {s : List Byte} (hs : s.length ≤ 64) :
    lanes (hexResult s).hex (hexResult s).len.toNat = s := by
  rw [hexResult_len_toNat hs]
  refine List.ext_getElem (by simp [lanes]) fun i _ hi => ?_
  simp [lanes, hexResult, lane_pack s hs i (by omega), hi]

theorem hexResult_injective {s s' : List Byte} (hs : s.length ≤ 64) (hs' : s'.length ≤ 64)
    (h : hexResult s = hexResult s') : s = s' := by
  rw [← lanes_hexResult hs, ← lanes_hexResult hs', h]

theorem grayWidth_fits {n : Nat} (hn : n ∈ [8, 16, 32, 64]) : n % 4 = 0 ∧ n ≤ 64 := by
  revert n
  decide

theorem rgbaWidth_fits {n : Nat} (hn : n ∈ [8, 16, 32, 64, 128, 256]) : n % 4 = 0 ∧ n ≤ 256 := by
  revert n
  decide

/-- Settles O37: the response shows the text, and the text the operand. -/
theorem hexResponsesAreInjective : Obligations.HexResponsesAreInjective := by
  refine ⟨fun n hn v v' h => ?_, fun n hn v v' h => ?_⟩
  · obtain ⟨hfour, hmax⟩ := grayWidth_fits hn
    have hlen : ∀ u : BitVec n, (grayHex u).length ≤ 64 := fun u => by rw [length_grayHex]; omega
    exact grayHex_injective hfour (hexResult_injective (hlen v) (hlen v') h)
  · obtain ⟨hfour, hmax⟩ := rgbaWidth_fits hn
    have hlen : ∀ u : BitVec n, (rgbaHex u).length ≤ 64 := fun u => by rw [length_rgbaHex]; omega
    exact rgbaHex_injective hfour (hexResult_injective (hlen v) (hlen v') h)

end Sys2Proof.Machine

/-! ### The HEX commands (spec/42_hex_encoder.md R105, R110 to R119)

The ten commands have two meanings, `grayHex` and `rgbaHex`, and differ in the width of the operand only. -/

namespace Sys2Proof.Machine

/-- A command whose row in the decoder and whose arm are those of a HEX command with the text `enc` obeys the rule with the
string that `enc` gives, if that string has `len` characters and so fits the bus. -/
theorem hexRule_of_text {n len : Nat} {code : Command} {instr : BitVec n → Instr} {enc : BitVec n → List Byte}
    {text : Nat → List Byte} (hdecode : ∀ d : Data, decode ⟨code, d⟩ = instr (operand n d))
    (hexec : ∀ (s : State) (v : BitVec n), exec (instr v) s = .next (s.respond (hexResult (enc v))))
    (htext : ∀ v, enc v = text v.toNat) (hlen : ∀ v, (enc v).length = len) (hfits : len ≤ 64) :
    HexRule n code instr len text := by
  refine ⟨commandDecodes_of_operand hdecode, fun v s => ?_⟩
  have hmax : (enc v).length ≤ 64 := (hlen v).trans_le hfits
  rw [← htext]
  exact ⟨hexResult (enc v), hexec s v, rfl, rfl, hexResult_colourless _, (hexResult_len_toNat hmax).trans (hlen v),
    hlen v, lane_pack (enc v) hmax⟩

/-- The string of a grey has as many characters as the intensity has bits (R105). -/
theorem hexRule_of_grayHex {n : Nat} {code : Command} {instr : BitVec n → Instr}
    (hn : n ∈ [8, 16, 32, 64]) (hdecode : ∀ d : Data, decode ⟨code, d⟩ = instr (operand n d))
    (hexec : ∀ (s : State) (v : BitVec n), exec (instr v) s = .next (s.respond (hexResult (grayHex v)))) :
    HexRule n code instr n (grayText n) := by
  obtain ⟨hfour, hmax⟩ := grayWidth_fits hn
  exact hexRule_of_text hdecode hexec (grayHex_eq_grayText hfour) (fun v => by rw [length_grayHex]; omega) hmax

/-- The string of an RGBA operand is the text of the whole operand; it is not cut into channels (R109). -/
theorem hexRule_of_rgbaHex {n : Nat} {code : Command} {instr : BitVec n → Instr}
    (hn : n ∈ [8, 16, 32, 64, 128, 256]) (hdecode : ∀ d : Data, decode ⟨code, d⟩ = instr (operand n d))
    (hexec : ∀ (s : State) (opd : BitVec n), exec (instr opd) s = .next (s.respond (hexResult (rgbaHex opd)))) :
    HexRule n code instr (n / 4) (hexDigitsOf n) := by
  obtain ⟨hfour, hmax⟩ := rgbaWidth_fits hn
  exact hexRule_of_text hdecode hexec (hexStr_eq_hexDigitsOf hfour) length_rgbaHex (by omega)

/-- Settles O15. -/
theorem hexGray8Result : Obligations.HexGray8Result :=
  hexRule_of_grayHex (by decide) decode_hexGray8 exec_hexGray8

/-- Settles O16. -/
theorem hexGray16Result : Obligations.HexGray16Result :=
  hexRule_of_grayHex (by decide) decode_hexGray16 exec_hexGray16

/-- Settles O17. -/
theorem hexGray32Result : Obligations.HexGray32Result :=
  hexRule_of_grayHex (by decide) decode_hexGray32 exec_hexGray32

/-- Settles O18. -/
theorem hexGray64Result : Obligations.HexGray64Result :=
  hexRule_of_grayHex (by decide) decode_hexGray64 exec_hexGray64

/-- Settles O19. -/
theorem hexRgba8Result : Obligations.HexRgba8Result :=
  hexRule_of_rgbaHex (by decide) decode_hexRgba8 exec_hexRgba8

/-- Settles O20. -/
theorem hexRgba16Result : Obligations.HexRgba16Result :=
  hexRule_of_rgbaHex (by decide) decode_hexRgba16 exec_hexRgba16

/-- Settles O21. -/
theorem hexRgba32Result : Obligations.HexRgba32Result :=
  hexRule_of_rgbaHex (by decide) decode_hexRgba32 exec_hexRgba32

/-- Settles O22. -/
theorem hexRgba64Result : Obligations.HexRgba64Result :=
  hexRule_of_rgbaHex (by decide) decode_hexRgba64 exec_hexRgba64

/-- Settles O23. -/
theorem hexRgba128Result : Obligations.HexRgba128Result :=
  hexRule_of_rgbaHex (by decide) decode_hexRgba128 exec_hexRgba128

/-- Settles O24. -/
theorem hexRgba256Result : Obligations.HexRgba256Result :=
  hexRule_of_rgbaHex (by decide) decode_hexRgba256 exec_hexRgba256

end Sys2Proof.Machine

/-! ### Reset and back pressure (spec/70_reset_and_hazards.md R141, R145, R147, R150)

While a response waits and the host does not take it, nothing is executed: an edge without reset can only append to `PIPE`
the request it offers. `State.Held` says that the host leaves the response there at every coming edge, and `held_run`
counts the offers that such a run accepts. -/

namespace Sys2Proof.Machine

/-- Settles O39. -/
theorem resetEdgeClearsEverything : Obligations.ResetEdgeClearsEverything := by
  intro s e es hedges hrst
  have hdrop : s.dropEdge = { s with edges := es } := by simp [State.dropEdge, hedges]
  rw [step_eq, after_of_rst (nextEdge_cons s e es hedges ▸ hrst), hdrop]
  rfl

section Waiting

variable {s : State}

/-- A response that waits and is not taken keeps `T_execute` from firing, whatever else the edge asks (R32, R145). -/
theorem after_of_not_taken (hvalid : s.rsp.valid = true) (hrst : s.nextEdge.rst = false)
    (hready : s.nextEdge.rspReady = false) :
    s.after = { s with pipe := s.pipe ++ s.accepts, edges := s.edges.tail } := by
  have hkept : s.kept = s.rsp := kept_of_not_ready hready
  have hexecutes : s.executes = [] := executes_of_kept_valid (hkept ▸ hvalid)
  rw [after_of_not_rst hrst, hexecutes, hkept]
  rfl

theorem length_accepts_of_not_full (hroom : s.pipe.length < s.depth) :
    s.accepts.length = s.nextEdge.reqValid.toNat := by
  cases hoffer : s.nextEdge.reqValid <;> simp [State.accepts, State.reqReady, hoffer, hroom]

theorem accepts_of_full (hfull : s.depth ≤ s.pipe.length) : s.accepts = [] := by
  simp [State.accepts, State.reqReady, hfull]

end Waiting

/-- Settles O47. -/
theorem waitingResponseStays : Obligations.WaitingResponseStays := by
  intro s e es hedges hrst hready hvalid
  obtain rfl : s.nextEdge = e := nextEdge_cons s e es hedges
  refine ⟨s.after, step_eq s, ?_⟩
  rw [after_of_not_taken hvalid hrst hready]
  exact ⟨rfl, List.prefix_append _ _, rfl⟩

/-- A response waits, `PIPE` is within its capacity, and no coming edge resets or takes the response. -/
structure State.Held (s : State) : Prop where
  valid : s.rsp.valid = true
  pipeBound : s.pipe.length ≤ s.depth
  untaken : ∀ e ∈ s.edges, e.rst = false ∧ e.rspReady = false

section Held

variable {s : State}

/-- The edge that stands in for an empty schedule takes no response either (log 1). -/
theorem State.Held.nextEdge_untaken (h : s.Held) : s.nextEdge.rst = false ∧ s.nextEdge.rspReady = false := by
  cases hedges : s.edges with
  | nil => rw [nextEdge_nil s hedges]; exact ⟨rfl, rfl⟩
  | cons e es => rw [nextEdge_cons s e es hedges]; exact h.untaken e (hedges ▸ List.mem_cons_self)

theorem State.Held.after_eq (h : s.Held) : s.after = { s with pipe := s.pipe ++ s.accepts, edges := s.edges.tail } := by
  obtain ⟨hrst, hready⟩ := h.nextEdge_untaken
  exact after_of_not_taken h.valid hrst hready

/-- An offer makes `PIPE` one longer until it is full (R31). -/
theorem State.Held.length_after_pipe (h : s.Held) :
    s.after.pipe.length = min s.depth (s.pipe.length + s.nextEdge.reqValid.toNat) := by
  have hafter : s.after.pipe.length = s.pipe.length + s.accepts.length := by simp [h.after_eq]
  have hbound := h.pipeBound
  by_cases hroom : s.pipe.length < s.depth
  · have := Bool.toNat_le s.nextEdge.reqValid
    rw [hafter, length_accepts_of_not_full hroom]
    omega
  · rw [hafter, accepts_of_full (Nat.le_of_not_lt hroom), List.length_nil]
    omega

theorem State.Held.after (h : s.Held) : s.after.Held where
  valid := by rw [h.after_eq]; exact h.valid
  pipeBound := by rw [h.length_after_pipe, after_depth]; exact Nat.min_le_left _ _
  untaken e he := h.untaken e (List.mem_of_mem_tail (after_edges s ▸ he))

end Held

/-- The offers of a schedule's first edges, counted edge by edge; an empty schedule offers nothing (log 1). -/
theorem countP_offers_succ (s : State) (n : Nat) :
    (s.edges.take (n + 1)).countP Edge.reqValid =
      s.nextEdge.reqValid.toNat + (s.edges.tail.take n).countP Edge.reqValid := by
  cases hedges : s.edges with
  | nil => simp [nextEdge_nil s hedges, Edge.quiet]
  | cons e es =>
    rw [nextEdge_cons s e es hedges, List.take_succ_cons, List.countP_cons, List.tail_cons, Nat.add_comm]
    cases e.reqValid <;> rfl

/-- After `n` edges at which the response is left waiting, `PIPE` has grown by the offers made at them, up to `DEPTH`
(R147). -/
theorem held_run (n : Nat) {s : State} (h : s.Held) :
    ∃ t : State, run n s = some t ∧ t.rsp = s.rsp ∧ t.depth = s.depth ∧ s.pipe <+: t.pipe ∧
      t.pipe.length = min s.depth (s.pipe.length + (s.edges.take n).countP Edge.reqValid) := by
  induction n generalizing s with
  | zero => exact ⟨s, rfl, rfl, rfl, List.prefix_rfl, by simp [h.pipeBound]⟩
  | succ n ih =>
    obtain ⟨t, hrun, hrsp, hdepth, hpipe, hlength⟩ := ih h.after
    have hrsp' : s.after.rsp = s.rsp := by rw [h.after_eq]
    have hpipe' : s.pipe <+: s.after.pipe := by simp [h.after_eq]
    refine ⟨t, run_succ n s ▸ hrun, hrsp.trans hrsp', hdepth.trans (after_depth s), hpipe'.trans hpipe, ?_⟩
    rw [hlength, h.length_after_pipe, after_depth, after_edges, countP_offers_succ]
    omega

/-- Settles O53: by `held_run`, `DEPTH` edges that all offer a request fill `PIPE`. -/
theorem backPressureLosesNothing : Obligations.BackPressureLosesNothing := by
  intro n s hvalid hbound huntaken
  obtain ⟨t, hrun, hrsp, hdepth, hpipe, hlength⟩ := held_run n ⟨hvalid, hbound, huntaken⟩
  refine ⟨t, hrun, hrsp, hpipe, hlength ▸ Nat.min_le_left _ _, fun hoffers hedges hsteps => ?_⟩
  have hcount : (s.edges.take n).countP Edge.reqValid = min n s.edges.length := by
    rw [List.countP_eq_length.mpr fun e he => hoffers e (List.mem_of_mem_take he), List.length_take]
  have hfull : ¬ t.pipe.length < t.depth := by omega
  exact decide_eq_false hfull

end Sys2Proof.Machine
